-- ==== Sys2Proof/Config.lean ====
section
/-! DEFINITION. The parameters of the block (00_scope.md R5). One is open, `P_SHAMT_MODE`
(40_r_format.md R82, 92_eei_decisions.md D9); the others are the constants the hardware takes. -/

namespace Sys2Proof

/-- `P_SHAMT_MODE`: where the shift amount of SLLI, SRLI and SRAI is delivered (R82).
`replicate`: in `rs2`, as a register name, and `shamt` is 0. `wired`: in `shamt`, and `rs2` is `Invalid`. -/
inductive ShamtMode where
  | replicate
  | wired
  deriving DecidableEq, Repr

/-- The configuration of one block: its open parameter (R5, R82 "A model takes `P_SHAMT_MODE` as a
configuration field"). -/
structure Config where
  shamtMode : ShamtMode
  deriving DecidableEq, Repr

/-- The value the spec names as the default, the reference's behaviour (R5, R82; log 1). -/
def Config.reference : Config := { shamtMode := .replicate }

/-- `WORD_W`, the width of the input word (R5). -/
def Config.wordWidth : Nat := 32

/-- `NREG`, the architectural register names (R5); `Register` has one value more, `Invalid` (R11). -/
def Config.registerNames : Nat := 32

/-- `NDESC`, the descriptors of the table (R5). -/
def Config.descriptors : Nat := 55

/-- `NOP`, the members of `Op` (R5). -/
def Config.operations : Nat := 61

end Sys2Proof
end

