-- ==== Sys2Proof/Word.lean ====
section
/-! DEFINITION. The instruction word and the widths of its fields (00_scope.md R5, R6; 30_encoding.md R40, R41).
A word is a number, bit 0 its least significant bit; the block has no byte order (20_memory.md R31). -/

namespace Sys2Proof

/-- The 32-bit instruction word of the port `word` (R6, R17). -/
abbrev Word := BitVec 32

/-- A 5-bit register slot of a word: `word[11:7]`, `word[19:15]` or `word[24:20]` (R42). -/
abbrev Slot := BitVec 5

end Sys2Proof
end

