-- ==== Sys2Proof/Machine/DataModel.lean ====
section
/-! DEFINITION. The data model of the result (10_state.md R11 to R16): the closed enumerations `Register` and `Op`,
the record `Fence` and the record `Instruction`, with the numbers and names the spec gives their members. -/

namespace Sys2Proof

/-- R11: the 33 values, x0 to x31 under their ABI names and the sentinel `invalid`, "used when a format has no such
operand". The second name `fp` of x8 is `Register.fp`. -/
inductive Register where
  | zero | ra | sp | gp | tp | t0 | t1 | t2
  | s0 | s1 | a0 | a1 | a2 | a3 | a4 | a5
  | a6 | a7 | s2 | s3 | s4 | s5 | s6 | s7
  | s8 | s9 | s10 | s11 | t3 | t4 | t5 | t6
  | invalid
  deriving DecidableEq, Repr

/-- R11: `Fp` is a second name of x8, not a 34th value (90_conflicts.md C5). -/
abbrev Register.fp : Register := .s0

/-- R12: "constructed by numeric decode (0–31 → named register, else `Invalid`)". -/
def Register.ofNumber : Nat → Register
  | 0 => .zero
  | 1 => .ra
  | 2 => .sp
  | 3 => .gp
  | 4 => .tp
  | 5 => .t0
  | 6 => .t1
  | 7 => .t2
  | 8 => .s0
  | 9 => .s1
  | 10 => .a0
  | 11 => .a1
  | 12 => .a2
  | 13 => .a3
  | 14 => .a4
  | 15 => .a5
  | 16 => .a6
  | 17 => .a7
  | 18 => .s2
  | 19 => .s3
  | 20 => .s4
  | 21 => .s5
  | 22 => .s6
  | 23 => .s7
  | 24 => .s8
  | 25 => .s9
  | 26 => .s10
  | 27 => .s11
  | 28 => .t3
  | 29 => .t4
  | 30 => .t5
  | 31 => .t6
  | _ => .invalid

/-- R7: `Reg(n)` of a 5-bit field. -/
def Register.ofSlot (n : Slot) : Register := Register.ofNumber n.toNat

/-- R11, R17: the code on the ports, 0 to 31 for x0 to x31 and 32 for `Invalid` (92_eei_decisions.md D3). -/
def Register.code : Register → BitVec 6
  | .zero => 0
  | .ra => 1
  | .sp => 2
  | .gp => 3
  | .tp => 4
  | .t0 => 5
  | .t1 => 6
  | .t2 => 7
  | .s0 => 8
  | .s1 => 9
  | .a0 => 10
  | .a1 => 11
  | .a2 => 12
  | .a3 => 13
  | .a4 => 14
  | .a5 => 15
  | .a6 => 16
  | .a7 => 17
  | .s2 => 18
  | .s3 => 19
  | .s4 => 20
  | .s5 => 21
  | .s6 => 22
  | .s7 => 23
  | .s8 => 24
  | .s9 => 25
  | .s10 => 26
  | .s11 => 27
  | .t3 => 28
  | .t4 => 29
  | .t5 => 30
  | .t6 => 31
  | .invalid => 32

/-- The 5-bit number of a register; `invalid` has none, and gives the low bits of its code (log 8). -/
def Register.slot (r : Register) : Slot := r.code.setWidth 5

/-- Whether a slot names one of x0 to x31 (R12). -/
def Register.named (r : Register) : Bool := r != .invalid

/-- R13: the 61 operations, in the order of their port codes. The last six are reserved: no word produces them
(48_reserved_ops.md R190). -/
inductive Op where
  | add | sub | sll | slt | sltu | xor | srl | sra
  | or | and | slli | srli | srai | mul | mulh | mulhsu
  | mulhu | div | divu | rem | remu | addi | slti | sltiu
  | xori | ori | andi | lb | lh | lw | lbu | lhu
  | jalr | fence | fenceI | sb | sh | sw | beq | bne
  | blt | bge | bltu | bgeu | lui | auipc | jal | ecall
  | ebreak | csrrw | csrrs | csrrc | csrrwi | csrrsi | csrrci
  | rdcycle | rdcycleh | rdtime | rdtimeh | rdinstret | rdinstreth
  deriving DecidableEq, Repr

/-- R13: the code on the port `op`; codes 0 to 54 are the indices of the descriptor table. -/
def Op.code : Op → BitVec 6
  | .add => 0
  | .sub => 1
  | .sll => 2
  | .slt => 3
  | .sltu => 4
  | .xor => 5
  | .srl => 6
  | .sra => 7
  | .or => 8
  | .and => 9
  | .slli => 10
  | .srli => 11
  | .srai => 12
  | .mul => 13
  | .mulh => 14
  | .mulhsu => 15
  | .mulhu => 16
  | .div => 17
  | .divu => 18
  | .rem => 19
  | .remu => 20
  | .addi => 21
  | .slti => 22
  | .sltiu => 23
  | .xori => 24
  | .ori => 25
  | .andi => 26
  | .lb => 27
  | .lh => 28
  | .lw => 29
  | .lbu => 30
  | .lhu => 31
  | .jalr => 32
  | .fence => 33
  | .fenceI => 34
  | .sb => 35
  | .sh => 36
  | .sw => 37
  | .beq => 38
  | .bne => 39
  | .blt => 40
  | .bge => 41
  | .bltu => 42
  | .bgeu => 43
  | .lui => 44
  | .auipc => 45
  | .jal => 46
  | .ecall => 47
  | .ebreak => 48
  | .csrrw => 49
  | .csrrs => 50
  | .csrrc => 51
  | .csrrwi => 52
  | .csrrsi => 53
  | .csrrci => 54
  | .rdcycle => 55
  | .rdcycleh => 56
  | .rdtime => 57
  | .rdtimeh => 58
  | .rdinstret => 59
  | .rdinstreth => 60

/-- R13, R200: the mnemonic, upper case (FENCE.I for `fenceI`; SB is store byte). -/
def Op.mnemonic : Op → String
  | .add => "ADD"
  | .sub => "SUB"
  | .sll => "SLL"
  | .slt => "SLT"
  | .sltu => "SLTU"
  | .xor => "XOR"
  | .srl => "SRL"
  | .sra => "SRA"
  | .or => "OR"
  | .and => "AND"
  | .slli => "SLLI"
  | .srli => "SRLI"
  | .srai => "SRAI"
  | .mul => "MUL"
  | .mulh => "MULH"
  | .mulhsu => "MULHSU"
  | .mulhu => "MULHU"
  | .div => "DIV"
  | .divu => "DIVU"
  | .rem => "REM"
  | .remu => "REMU"
  | .addi => "ADDI"
  | .slti => "SLTI"
  | .sltiu => "SLTIU"
  | .xori => "XORI"
  | .ori => "ORI"
  | .andi => "ANDI"
  | .lb => "LB"
  | .lh => "LH"
  | .lw => "LW"
  | .lbu => "LBU"
  | .lhu => "LHU"
  | .jalr => "JALR"
  | .fence => "FENCE"
  | .fenceI => "FENCE.I"
  | .sb => "SB"
  | .sh => "SH"
  | .sw => "SW"
  | .beq => "BEQ"
  | .bne => "BNE"
  | .blt => "BLT"
  | .bge => "BGE"
  | .bltu => "BLTU"
  | .bgeu => "BGEU"
  | .lui => "LUI"
  | .auipc => "AUIPC"
  | .jal => "JAL"
  | .ecall => "ECALL"
  | .ebreak => "EBREAK"
  | .csrrw => "CSRRW"
  | .csrrs => "CSRRS"
  | .csrrc => "CSRRC"
  | .csrrwi => "CSRRWI"
  | .csrrsi => "CSRRSI"
  | .csrrci => "CSRRCI"
  | .rdcycle => "RDCYCLE"
  | .rdcycleh => "RDCYCLEH"
  | .rdtime => "RDTIME"
  | .rdtimeh => "RDTIMEH"
  | .rdinstret => "RDINSTRET"
  | .rdinstreth => "RDINSTRETH"

/-- R190: the six members reserved for the cycle, time and instret pseudo-registers. -/
def Op.reserved : Op → Bool
  | .rdcycle | .rdcycleh | .rdtime | .rdtimeh | .rdinstret | .rdinstreth => true
  | _ => false

/-- R14: eight independent ordering flags, predecessor (`p`) and successor (`s`), each device input, device output,
memory read and memory write. -/
structure Fence where
  pi : Bool
  po : Bool
  pr : Bool
  pw : Bool
  si : Bool
  so : Bool
  sr : Bool
  sw : Bool
  deriving DecidableEq, Repr

/-- R15: the record a decode gives, an immutable value of eight fields. Every field but `op` has the default R15
names. `immediate` is the integer the rules give; the port carries it modulo 2^32 (92_eei_decisions.md D4). -/
structure Instruction where
  op        : Op
  rd        : Register := .invalid
  rs1       : Register := .invalid
  rs2       : Register := .invalid
  csr       : BitVec 12 := 0
  shamt     : BitVec 5 := 0
  immediate : Int := 0
  fence     : Option Fence := none
  deriving DecidableEq, Repr

end Sys2Proof
end

