-- ==== Sys2Proof/Syntax.lean ====
section
/-! DEFINITION. The instructions, one constructor per row of spec/opcode_table.json (30_encoding.md R52).
A register operand is a `Register` and any other operand is the raw field of the word, whole and in the order of its
immediate's bits; what a field is worth is said by the meanings (Machine/Operands.lean). The bits that FENCE, FENCE.I,
ECALL and EBREAK ignore (R59) are operands too, so that a word and its instruction say the same (log 7). -/

namespace Sys2Proof

inductive Instr where
  -- R format: register operations (R83 to R92)
  | add (rd rs1 rs2 : Register)
  | sub (rd rs1 rs2 : Register)
  | sll (rd rs1 rs2 : Register)
  | slt (rd rs1 rs2 : Register)
  | sltu (rd rs1 rs2 : Register)
  | xor (rd rs1 rs2 : Register)
  | srl (rd rs1 rs2 : Register)
  | sra (rd rs1 rs2 : Register)
  | or (rd rs1 rs2 : Register)
  | and (rd rs1 rs2 : Register)
  -- R format: shift-immediates, `amount` = word[24:20] (R93 to R95)
  | slli (rd rs1 : Register) (amount : Slot)
  | srli (rd rs1 : Register) (amount : Slot)
  | srai (rd rs1 : Register) (amount : Slot)
  -- R format: multiply and divide (R96 to R103)
  | mul (rd rs1 rs2 : Register)
  | mulh (rd rs1 rs2 : Register)
  | mulhsu (rd rs1 rs2 : Register)
  | mulhu (rd rs1 rs2 : Register)
  | div (rd rs1 rs2 : Register)
  | divu (rd rs1 rs2 : Register)
  | rem (rd rs1 rs2 : Register)
  | remu (rd rs1 rs2 : Register)
  -- I format, `imm` = word[31:20] (R111 to R122)
  | addi (rd rs1 : Register) (imm : BitVec 12)
  | slti (rd rs1 : Register) (imm : BitVec 12)
  | sltiu (rd rs1 : Register) (imm : BitVec 12)
  | xori (rd rs1 : Register) (imm : BitVec 12)
  | ori (rd rs1 : Register) (imm : BitVec 12)
  | andi (rd rs1 : Register) (imm : BitVec 12)
  | lb (rd rs1 : Register) (imm : BitVec 12)
  | lh (rd rs1 : Register) (imm : BitVec 12)
  | lw (rd rs1 : Register) (imm : BitVec 12)
  | lbu (rd rs1 : Register) (imm : BitVec 12)
  | lhu (rd rs1 : Register) (imm : BitVec 12)
  | jalr (rd rs1 : Register) (imm : BitVec 12)
  -- the fence extractor: `flags` = word[27:20]; `fm` = word[31:28] and the two slots are the bits it ignores (R180 to R182)
  | fence (fm : BitVec 4) (flags : BitVec 8) (rs1Bits rdBits : Slot)
  | fenceI (fm : BitVec 4) (flags : BitVec 8) (rs1Bits rdBits : Slot)
  -- S format, `imm` = word[31:25] ++ word[11:7] (R131 to R133)
  | sb (rs1 rs2 : Register) (imm : BitVec 12)
  | sh (rs1 rs2 : Register) (imm : BitVec 12)
  | sw (rs1 rs2 : Register) (imm : BitVec 12)
  -- SB format, `offset` = immediate[12:1] = word[31] ++ word[7] ++ word[30:25] ++ word[11:8] (R142 to R147)
  | beq (rs1 rs2 : Register) (offset : BitVec 12)
  | bne (rs1 rs2 : Register) (offset : BitVec 12)
  | blt (rs1 rs2 : Register) (offset : BitVec 12)
  | bge (rs1 rs2 : Register) (offset : BitVec 12)
  | bltu (rs1 rs2 : Register) (offset : BitVec 12)
  | bgeu (rs1 rs2 : Register) (offset : BitVec 12)
  -- U format, `imm` = word[31:12] (R151, R152)
  | lui (rd : Register) (imm : BitVec 20)
  | auipc (rd : Register) (imm : BitVec 20)
  -- UJ format, `offset` = immediate[20:1] = word[31] ++ word[19:12] ++ word[20] ++ word[30:21] (R156)
  | jal (rd : Register) (offset : BitVec 20)
  -- Special: `code` = word[31:20]; the two slots are the bits ECALL and EBREAK ignore (R161 to R163)
  | ecall (rs1Bits rdBits : Slot)
  | ebreak (code : BitVec 12) (rs1Bits rdBits : Slot)
  -- Special, CSR access: `csr` = word[31:20]; `imm` = word[19:15] in the immediate forms (R166 to R171)
  | csrrw (rd rs1 : Register) (csr : BitVec 12)
  | csrrs (rd rs1 : Register) (csr : BitVec 12)
  | csrrc (rd rs1 : Register) (csr : BitVec 12)
  | csrrwi (rd : Register) (imm : Slot) (csr : BitVec 12)
  | csrrsi (rd : Register) (imm : Slot) (csr : BitVec 12)
  | csrrci (rd : Register) (imm : Slot) (csr : BitVec 12)
  deriving DecidableEq, Repr

end Sys2Proof
end

