-- ==== Sys2Proof/WellFormed.lean ====
section
/-! DEFINITION. Which instructions have a word: every register operand is one of x0 to x31 (10_state.md R12: a slot
never holds `Invalid`), and EBREAK's twelve bits are not all zero (46_special_format.md R161, R163: those words are
ECALL). Every other operand fits its field by its type. -/

namespace Sys2Proof

/-- The check, one arm per constructor. -/
def Instr.wellFormed : Instr → Bool
  | .add rd rs1 rs2 => rd.named && rs1.named && rs2.named
  | .sub rd rs1 rs2 => rd.named && rs1.named && rs2.named
  | .sll rd rs1 rs2 => rd.named && rs1.named && rs2.named
  | .slt rd rs1 rs2 => rd.named && rs1.named && rs2.named
  | .sltu rd rs1 rs2 => rd.named && rs1.named && rs2.named
  | .xor rd rs1 rs2 => rd.named && rs1.named && rs2.named
  | .srl rd rs1 rs2 => rd.named && rs1.named && rs2.named
  | .sra rd rs1 rs2 => rd.named && rs1.named && rs2.named
  | .or rd rs1 rs2 => rd.named && rs1.named && rs2.named
  | .and rd rs1 rs2 => rd.named && rs1.named && rs2.named
  | .slli rd rs1 _ => rd.named && rs1.named
  | .srli rd rs1 _ => rd.named && rs1.named
  | .srai rd rs1 _ => rd.named && rs1.named
  | .mul rd rs1 rs2 => rd.named && rs1.named && rs2.named
  | .mulh rd rs1 rs2 => rd.named && rs1.named && rs2.named
  | .mulhsu rd rs1 rs2 => rd.named && rs1.named && rs2.named
  | .mulhu rd rs1 rs2 => rd.named && rs1.named && rs2.named
  | .div rd rs1 rs2 => rd.named && rs1.named && rs2.named
  | .divu rd rs1 rs2 => rd.named && rs1.named && rs2.named
  | .rem rd rs1 rs2 => rd.named && rs1.named && rs2.named
  | .remu rd rs1 rs2 => rd.named && rs1.named && rs2.named
  | .addi rd rs1 _ => rd.named && rs1.named
  | .slti rd rs1 _ => rd.named && rs1.named
  | .sltiu rd rs1 _ => rd.named && rs1.named
  | .xori rd rs1 _ => rd.named && rs1.named
  | .ori rd rs1 _ => rd.named && rs1.named
  | .andi rd rs1 _ => rd.named && rs1.named
  | .lb rd rs1 _ => rd.named && rs1.named
  | .lh rd rs1 _ => rd.named && rs1.named
  | .lw rd rs1 _ => rd.named && rs1.named
  | .lbu rd rs1 _ => rd.named && rs1.named
  | .lhu rd rs1 _ => rd.named && rs1.named
  | .jalr rd rs1 _ => rd.named && rs1.named
  | .fence _ _ _ _ => true
  | .fenceI _ _ _ _ => true
  | .sb rs1 rs2 _ => rs1.named && rs2.named
  | .sh rs1 rs2 _ => rs1.named && rs2.named
  | .sw rs1 rs2 _ => rs1.named && rs2.named
  | .beq rs1 rs2 _ => rs1.named && rs2.named
  | .bne rs1 rs2 _ => rs1.named && rs2.named
  | .blt rs1 rs2 _ => rs1.named && rs2.named
  | .bge rs1 rs2 _ => rs1.named && rs2.named
  | .bltu rs1 rs2 _ => rs1.named && rs2.named
  | .bgeu rs1 rs2 _ => rs1.named && rs2.named
  | .lui rd _ => rd.named
  | .auipc rd _ => rd.named
  | .jal rd _ => rd.named
  | .ecall _ _ => true
  | .ebreak code _ _ => code != 0
  | .csrrw rd rs1 _ => rd.named && rs1.named
  | .csrrs rd rs1 _ => rd.named && rs1.named
  | .csrrc rd rs1 _ => rd.named && rs1.named
  | .csrrwi rd _ _ => rd.named
  | .csrrsi rd _ _ => rd.named
  | .csrrci rd _ _ => rd.named

/-- The check as a proposition. -/
abbrev Instr.WellFormed (i : Instr) : Prop := i.wellFormed = true

end Sys2Proof
end

