-- ==== Sys2Proof/Decode.lean ====
section
/-! DEFINITION. The decoder as the spec gives it (30_encoding.md): selectors (R40), the descriptor table (R50, R52), the
match predicate of each format (R51), the first-match scan (R53), the fields of each format (R42 to R49), and the
instruction a word stands for, `none` where no descriptor matches (R55: the word is absent; R58: "illegal" and
"reserved" are not distinguished, so that one name of rejection is all there is). After it the encoder, written from the
patterns of the instruction rules. -/

namespace Sys2Proof

/-! ### Fields of a word -/

/-- R40: opcode = `word[6:0]`. -/
def opcodeOf (w : Word) : BitVec 7 := w.extractLsb 6 0

/-- R40: funct3 = `word[14:12]`. -/
def funct3Of (w : Word) : BitVec 3 := w.extractLsb 14 12

/-- R40: funct7 = `word[31:25]`. -/
def funct7Of (w : Word) : BitVec 7 := w.extractLsb 31 25

/-- R42: the slot `word[11:7]`. -/
def rdSlot (w : Word) : Slot := w.extractLsb 11 7

/-- R42: the slot `word[19:15]`. -/
def rs1Slot (w : Word) : Slot := w.extractLsb 19 15

/-- R42: the slot `word[24:20]`. -/
def rs2Slot (w : Word) : Slot := w.extractLsb 24 20

/-- R43: `Reg(word[11:7])`. -/
def rdOf (w : Word) : Register := Register.ofSlot (rdSlot w)

/-- R43: `Reg(word[19:15])`. -/
def rs1Of (w : Word) : Register := Register.ofSlot (rs1Slot w)

/-- R43: `Reg(word[24:20])`. -/
def rs2Of (w : Word) : Register := Register.ofSlot (rs2Slot w)

/-- R44, R49: the twelve bits `word[31:20]`, an I immediate, a CSR index, or the bits that tell ECALL from EBREAK. -/
def upper12 (w : Word) : BitVec 12 := w.extractLsb 31 20

/-- R45: `word[31:25] ++ word[11:7]`. -/
def storeField (w : Word) : BitVec 12 :=
  (w.extractLsb 31 25 : BitVec 7) ++ (w.extractLsb 11 7 : BitVec 5)

/-- R46: the 12-bit unshifted value `word[31] ++ word[7] ++ word[30:25] ++ word[11:8]`, immediate[12:1]. -/
def branchField (w : Word) : BitVec 12 :=
  (w.extractLsb 31 31 : BitVec 1) ++ (w.extractLsb 7 7 : BitVec 1) ++ (w.extractLsb 30 25 : BitVec 6) ++
    (w.extractLsb 11 8 : BitVec 4)

/-- R47: the twenty bits `word[31:12]`. -/
def upper20 (w : Word) : BitVec 20 := w.extractLsb 31 12

/-- R48: `word[31] ++ word[19:12] ++ word[20] ++ word[30:21]`, immediate[20:1]. -/
def jumpField (w : Word) : BitVec 20 :=
  (w.extractLsb 31 31 : BitVec 1) ++ (w.extractLsb 19 12 : BitVec 8) ++ (w.extractLsb 20 20 : BitVec 1) ++
    (w.extractLsb 30 21 : BitVec 10)

/-- R180: the eight flag bits `word[27:20]`. -/
def fenceField (w : Word) : BitVec 8 := w.extractLsb 27 20

/-- R180: the bits `word[31:28]`, which the fence extractor ignores. -/
def fmField (w : Word) : BitVec 4 := w.extractLsb 31 28

/-! ### The descriptor table -/

/-- R42: the seven format tags. -/
inductive Format where
  | r | i | s | sb | u | uj | special
  deriving DecidableEq, Repr

/-- R160: the three bodies of `extract_Special`. -/
inductive SpecialBody where
  /-- ECALL and EBREAK (R161) -/
  | environment
  /-- CSRRW, CSRRS, CSRRC (R164) -/
  | csrRegister
  /-- CSRRWI, CSRRSI, CSRRCI (R165) -/
  | csrImmediate
  deriving DecidableEq, Repr

/-- R160: the body an `Op` selects; no other `Op` reaches `extract_Special` (R172). -/
def specialBody : Op → Option SpecialBody
  | .ecall | .ebreak => some .environment
  | .csrrw | .csrrs | .csrrc => some .csrRegister
  | .csrrwi | .csrrsi | .csrrci => some .csrImmediate
  | _ => none

/-- R40: the three selectors of a word. -/
structure Selectors where
  opcode : BitVec 7
  funct3 : BitVec 3
  funct7 : BitVec 7
  deriving DecidableEq, Repr

/-- R40: they are "extracted from every word in the same way". -/
def selectorsOf (w : Word) : Selectors :=
  { opcode := opcodeOf w, funct3 := funct3Of w, funct7 := funct7Of w }

/-- R50: a descriptor is opcode, funct3, funct7, operation and format tag; a selector the format does not compare is
stored as 0 (92_eei_decisions.md D25). The last field is the table's own proof that a Special descriptor selects a body,
so that the "invalid internal invariant" of R172 has no arm and no constructor. -/
structure Descriptor where
  opcode : BitVec 7
  funct3 : BitVec 3
  funct7 : BitVec 7
  op     : Op
  format : Format
  special_has_body : format = .special → (specialBody op).isSome = true := by decide
  deriving DecidableEq, Repr

/-- A row tagged R, which compares all three selectors. -/
def rowR (op : Op) (opcode : BitVec 7) (funct3 : BitVec 3) (funct7 : BitVec 7) : Descriptor :=
  { opcode, funct3, funct7, op, format := .r, special_has_body := fun h => nomatch h }

/-- A row whose funct7 is not compared, of a format other than Special. -/
def row (op : Op) (format : Format) (opcode : BitVec 7) (funct3 : BitVec 3)
    (h : format = .special → (specialBody op).isSome = true := by decide) : Descriptor :=
  { opcode, funct3, funct7 := 0b0000000, op, format, special_has_body := h }

/-- A row of the system opcode, tagged Special. -/
def rowSpecial (op : Op) (funct3 : BitVec 3) (h : (specialBody op).isSome = true := by decide) : Descriptor :=
  { opcode := 0b1110011, funct3, funct7 := 0b0000000, op, format := .special, special_has_body := fun _ => h }

/-- R52, rows 0 to 9, register operations. -/
def tableRegister : List Descriptor :=
  [ rowR .add 0b0110011 0b000 0b0000000
  , rowR .sub 0b0110011 0b000 0b0100000
  , rowR .sll 0b0110011 0b001 0b0000000
  , rowR .slt 0b0110011 0b010 0b0000000
  , rowR .sltu 0b0110011 0b011 0b0000000
  , rowR .xor 0b0110011 0b100 0b0000000
  , rowR .srl 0b0110011 0b101 0b0000000
  , rowR .sra 0b0110011 0b101 0b0100000
  , rowR .or 0b0110011 0b110 0b0000000
  , rowR .and 0b0110011 0b111 0b0000000 ]

/-- R52, rows 10 to 12, the shift-immediates, tagged R. -/
def tableShiftImmediate : List Descriptor :=
  [ rowR .slli 0b0010011 0b001 0b0000000
  , rowR .srli 0b0010011 0b101 0b0000000
  , rowR .srai 0b0010011 0b101 0b0100000 ]

/-- R52, rows 13 to 20, the M extension. -/
def tableMultiplyDivide : List Descriptor :=
  [ rowR .mul 0b0110011 0b000 0b0000001
  , rowR .mulh 0b0110011 0b001 0b0000001
  , rowR .mulhsu 0b0110011 0b010 0b0000001
  , rowR .mulhu 0b0110011 0b011 0b0000001
  , rowR .div 0b0110011 0b100 0b0000001
  , rowR .divu 0b0110011 0b101 0b0000001
  , rowR .rem 0b0110011 0b110 0b0000001
  , rowR .remu 0b0110011 0b111 0b0000001 ]

/-- R52, rows 21 to 26, immediate arithmetic. -/
def tableImmediate : List Descriptor :=
  [ row .addi .i 0b0010011 0b000
  , row .slti .i 0b0010011 0b010
  , row .sltiu .i 0b0010011 0b011
  , row .xori .i 0b0010011 0b100
  , row .ori .i 0b0010011 0b110
  , row .andi .i 0b0010011 0b111 ]

/-- R52, rows 27 to 34, loads, JALR and the two fences, all tagged I (92_eei_decisions.md D24). -/
def tableLoadJumpFence : List Descriptor :=
  [ row .lb .i 0b0000011 0b000
  , row .lh .i 0b0000011 0b001
  , row .lw .i 0b0000011 0b010
  , row .lbu .i 0b0000011 0b100
  , row .lhu .i 0b0000011 0b101
  , row .jalr .i 0b1100111 0b000
  , row .fence .i 0b0001111 0b000
  , row .fenceI .i 0b0001111 0b001 ]

/-- R52, rows 35 to 43, stores and branches. -/
def tableStoreBranch : List Descriptor :=
  [ row .sb .s 0b0100011 0b000
  , row .sh .s 0b0100011 0b001
  , row .sw .s 0b0100011 0b010
  , row .beq .sb 0b1100011 0b000
  , row .bne .sb 0b1100011 0b001
  , row .blt .sb 0b1100011 0b100
  , row .bge .sb 0b1100011 0b101
  , row .bltu .sb 0b1100011 0b110
  , row .bgeu .sb 0b1100011 0b111 ]

/-- R52, rows 44 to 46, LUI, AUIPC and JAL. -/
def tableUpperJump : List Descriptor :=
  [ row .lui .u 0b0110111 0b000
  , row .auipc .u 0b0010111 0b000
  , row .jal .uj 0b1101111 0b000 ]

/-- R52, rows 47 to 54, ECALL, EBREAK and CSR access. -/
def tableSpecial : List Descriptor :=
  [ rowSpecial .ecall 0b000
  , rowSpecial .ebreak 0b000
  , rowSpecial .csrrw 0b001
  , rowSpecial .csrrs 0b010
  , rowSpecial .csrrc 0b011
  , rowSpecial .csrrwi 0b101
  , rowSpecial .csrrsi 0b110
  , rowSpecial .csrrci 0b111 ]

/-- R52: the table of 55 descriptors, in declaration order. -/
def descriptorTable : List Descriptor :=
  tableRegister ++ tableShiftImmediate ++ tableMultiplyDivide ++ tableImmediate ++
    tableLoadJumpFence ++ tableStoreBranch ++ tableUpperJump ++ tableSpecial

/-- R51: the match predicate of a descriptor, by its format tag. SB compares funct3 (90_conflicts.md C1). -/
def Descriptor.fits (d : Descriptor) (x : Selectors) : Bool :=
  match d.format with
  | .r => x.opcode == d.opcode && x.funct3 == d.funct3 && x.funct7 == d.funct7
  | .i | .s | .special | .sb => x.opcode == d.opcode && x.funct3 == d.funct3
  | .u | .uj => x.opcode == d.opcode

/-- R53: "the first descriptor satisfying its format's match predicate wins". -/
def scan (x : Selectors) : Option Descriptor := descriptorTable.find? (fun d => d.fits x)

/-- R53: `lookup(word)`. -/
def lookup (w : Word) : Option Descriptor := scan (selectorsOf w)

/-! ### The instruction of a word -/

/-- R161: ECALL or EBREAK, told apart after the match by `word[31:20]`. -/
def environmentInstr (w : Word) : Instr :=
  if upper12 w = 0 then .ecall (rs1Slot w) (rdSlot w) else .ebreak (upper12 w) (rs1Slot w) (rdSlot w)

/-- The instruction of a word whose descriptor has operation `op`; none for the reserved operations (R190), which no
descriptor has. -/
def instrOf (op : Op) (w : Word) : Option Instr :=
  match op with
  | .add => some (.add (rdOf w) (rs1Of w) (rs2Of w))
  | .sub => some (.sub (rdOf w) (rs1Of w) (rs2Of w))
  | .sll => some (.sll (rdOf w) (rs1Of w) (rs2Of w))
  | .slt => some (.slt (rdOf w) (rs1Of w) (rs2Of w))
  | .sltu => some (.sltu (rdOf w) (rs1Of w) (rs2Of w))
  | .xor => some (.xor (rdOf w) (rs1Of w) (rs2Of w))
  | .srl => some (.srl (rdOf w) (rs1Of w) (rs2Of w))
  | .sra => some (.sra (rdOf w) (rs1Of w) (rs2Of w))
  | .or => some (.or (rdOf w) (rs1Of w) (rs2Of w))
  | .and => some (.and (rdOf w) (rs1Of w) (rs2Of w))
  | .slli => some (.slli (rdOf w) (rs1Of w) (rs2Slot w))
  | .srli => some (.srli (rdOf w) (rs1Of w) (rs2Slot w))
  | .srai => some (.srai (rdOf w) (rs1Of w) (rs2Slot w))
  | .mul => some (.mul (rdOf w) (rs1Of w) (rs2Of w))
  | .mulh => some (.mulh (rdOf w) (rs1Of w) (rs2Of w))
  | .mulhsu => some (.mulhsu (rdOf w) (rs1Of w) (rs2Of w))
  | .mulhu => some (.mulhu (rdOf w) (rs1Of w) (rs2Of w))
  | .div => some (.div (rdOf w) (rs1Of w) (rs2Of w))
  | .divu => some (.divu (rdOf w) (rs1Of w) (rs2Of w))
  | .rem => some (.rem (rdOf w) (rs1Of w) (rs2Of w))
  | .remu => some (.remu (rdOf w) (rs1Of w) (rs2Of w))
  | .addi => some (.addi (rdOf w) (rs1Of w) (upper12 w))
  | .slti => some (.slti (rdOf w) (rs1Of w) (upper12 w))
  | .sltiu => some (.sltiu (rdOf w) (rs1Of w) (upper12 w))
  | .xori => some (.xori (rdOf w) (rs1Of w) (upper12 w))
  | .ori => some (.ori (rdOf w) (rs1Of w) (upper12 w))
  | .andi => some (.andi (rdOf w) (rs1Of w) (upper12 w))
  | .lb => some (.lb (rdOf w) (rs1Of w) (upper12 w))
  | .lh => some (.lh (rdOf w) (rs1Of w) (upper12 w))
  | .lw => some (.lw (rdOf w) (rs1Of w) (upper12 w))
  | .lbu => some (.lbu (rdOf w) (rs1Of w) (upper12 w))
  | .lhu => some (.lhu (rdOf w) (rs1Of w) (upper12 w))
  | .jalr => some (.jalr (rdOf w) (rs1Of w) (upper12 w))
  | .fence => some (.fence (fmField w) (fenceField w) (rs1Slot w) (rdSlot w))
  | .fenceI => some (.fenceI (fmField w) (fenceField w) (rs1Slot w) (rdSlot w))
  | .sb => some (.sb (rs1Of w) (rs2Of w) (storeField w))
  | .sh => some (.sh (rs1Of w) (rs2Of w) (storeField w))
  | .sw => some (.sw (rs1Of w) (rs2Of w) (storeField w))
  | .beq => some (.beq (rs1Of w) (rs2Of w) (branchField w))
  | .bne => some (.bne (rs1Of w) (rs2Of w) (branchField w))
  | .blt => some (.blt (rs1Of w) (rs2Of w) (branchField w))
  | .bge => some (.bge (rs1Of w) (rs2Of w) (branchField w))
  | .bltu => some (.bltu (rs1Of w) (rs2Of w) (branchField w))
  | .bgeu => some (.bgeu (rs1Of w) (rs2Of w) (branchField w))
  | .lui => some (.lui (rdOf w) (upper20 w))
  | .auipc => some (.auipc (rdOf w) (upper20 w))
  | .jal => some (.jal (rdOf w) (jumpField w))
  | .ecall => some (environmentInstr w)
  | .ebreak => some (environmentInstr w)
  | .csrrw => some (.csrrw (rdOf w) (rs1Of w) (upper12 w))
  | .csrrs => some (.csrrs (rdOf w) (rs1Of w) (upper12 w))
  | .csrrc => some (.csrrc (rdOf w) (rs1Of w) (upper12 w))
  | .csrrwi => some (.csrrwi (rdOf w) (rs1Slot w) (upper12 w))
  | .csrrsi => some (.csrrsi (rdOf w) (rs1Slot w) (upper12 w))
  | .csrrci => some (.csrrci (rdOf w) (rs1Slot w) (upper12 w))
  | .rdcycle | .rdcycleh | .rdtime | .rdtimeh | .rdinstret | .rdinstreth => none

/-- The decoder: the instruction of a word, or none, the one rejection there is, absent (R53, R55). Total on all
2^32 words (R8). -/
def decodeWord (w : Word) : Option Instr :=
  match lookup w with
  | none => none
  | some d => instrOf d.op w

/-- The word of the opcode table's numbering: bit 0 the least significant bit, the bits above `nbits` zero. The block
takes a number and has no byte order (R31), so that no bytes are laid out (log 10). -/
def tableWord (nbits w : Nat) : Word := BitVec.ofNat 32 (w % 2 ^ nbits)

/-- The instruction the decoder reads from an instruction whose bits are `w`. -/
def decodeTableWord (nbits w : Nat) : Option Instr := decodeWord (tableWord nbits w)

/-- The operation an instruction names (R13). -/
def Instr.op : Instr → Op
  | .add _ _ _ => .add
  | .sub _ _ _ => .sub
  | .sll _ _ _ => .sll
  | .slt _ _ _ => .slt
  | .sltu _ _ _ => .sltu
  | .xor _ _ _ => .xor
  | .srl _ _ _ => .srl
  | .sra _ _ _ => .sra
  | .or _ _ _ => .or
  | .and _ _ _ => .and
  | .slli _ _ _ => .slli
  | .srli _ _ _ => .srli
  | .srai _ _ _ => .srai
  | .mul _ _ _ => .mul
  | .mulh _ _ _ => .mulh
  | .mulhsu _ _ _ => .mulhsu
  | .mulhu _ _ _ => .mulhu
  | .div _ _ _ => .div
  | .divu _ _ _ => .divu
  | .rem _ _ _ => .rem
  | .remu _ _ _ => .remu
  | .addi _ _ _ => .addi
  | .slti _ _ _ => .slti
  | .sltiu _ _ _ => .sltiu
  | .xori _ _ _ => .xori
  | .ori _ _ _ => .ori
  | .andi _ _ _ => .andi
  | .lb _ _ _ => .lb
  | .lh _ _ _ => .lh
  | .lw _ _ _ => .lw
  | .lbu _ _ _ => .lbu
  | .lhu _ _ _ => .lhu
  | .jalr _ _ _ => .jalr
  | .fence _ _ _ _ => .fence
  | .fenceI _ _ _ _ => .fenceI
  | .sb _ _ _ => .sb
  | .sh _ _ _ => .sh
  | .sw _ _ _ => .sw
  | .beq _ _ _ => .beq
  | .bne _ _ _ => .bne
  | .blt _ _ _ => .blt
  | .bge _ _ _ => .bge
  | .bltu _ _ _ => .bltu
  | .bgeu _ _ _ => .bgeu
  | .lui _ _ => .lui
  | .auipc _ _ => .auipc
  | .jal _ _ => .jal
  | .ecall _ _ => .ecall
  | .ebreak _ _ _ => .ebreak
  | .csrrw _ _ _ => .csrrw
  | .csrrs _ _ _ => .csrrs
  | .csrrc _ _ _ => .csrrc
  | .csrrwi _ _ _ => .csrrwi
  | .csrrsi _ _ _ => .csrrsi
  | .csrrci _ _ _ => .csrrci

/-! ### The encoder, from the patterns of the instruction rules, bit 31 first -/

/-- R83: `funct7 ttttt sssss funct3 ddddd opcode`. -/
def packR (funct7 : BitVec 7) (rs2 rs1 : Slot) (funct3 : BitVec 3) (rd : Slot) (opcode : BitVec 7) : Word :=
  funct7 ++ rs2 ++ rs1 ++ funct3 ++ rd ++ opcode

/-- R111: `iiiiiiiiiiii sssss funct3 ddddd opcode`. -/
def packI (imm : BitVec 12) (rs1 : Slot) (funct3 : BitVec 3) (rd : Slot) (opcode : BitVec 7) : Word :=
  imm ++ rs1 ++ funct3 ++ rd ++ opcode

/-- R131: `iiiiiii ttttt sssss funct3 iiiii opcode`, immediate[11:5] and immediate[4:0]. -/
def packS (imm : BitVec 12) (rs2 rs1 : Slot) (funct3 : BitVec 3) (opcode : BitVec 7) : Word :=
  (imm.extractLsb 11 5 : BitVec 7) ++ rs2 ++ rs1 ++ funct3 ++ (imm.extractLsb 4 0 : BitVec 5) ++ opcode

/-- R142: first group immediate[12], immediate[10:5], second group immediate[4:1], immediate[11]. The operand is
immediate[12:1], so that its bit n is bit n + 1 of the immediate. -/
def packSB (offset : BitVec 12) (rs2 rs1 : Slot) (funct3 : BitVec 3) (opcode : BitVec 7) : Word :=
  (offset.extractLsb 11 11 : BitVec 1) ++ (offset.extractLsb 9 4 : BitVec 6) ++ rs2 ++ rs1 ++ funct3 ++
    (offset.extractLsb 3 0 : BitVec 4) ++ (offset.extractLsb 10 10 : BitVec 1) ++ opcode

/-- R151: `iiiiiiiiiiiiiiiiiiii ddddd opcode`. -/
def packU (imm : BitVec 20) (rd : Slot) (opcode : BitVec 7) : Word :=
  imm ++ rd ++ opcode

/-- R156: immediate[20], immediate[10:1], immediate[11], immediate[19:12]; the operand is immediate[20:1]. -/
def packUJ (offset : BitVec 20) (rd : Slot) (opcode : BitVec 7) : Word :=
  (offset.extractLsb 19 19 : BitVec 1) ++ (offset.extractLsb 9 0 : BitVec 10) ++
    (offset.extractLsb 10 10 : BitVec 1) ++ (offset.extractLsb 18 11 : BitVec 8) ++ rd ++ opcode

/-- R181: `xxxx ffffffff xxxxx funct3 xxxxx 0001111`. -/
def packFence (fm : BitVec 4) (flags : BitVec 8) (rs1Bits : Slot) (funct3 : BitVec 3) (rdBits : Slot) : Word :=
  fm ++ flags ++ rs1Bits ++ funct3 ++ rdBits ++ (0b0001111 : BitVec 7)

/-- The word of a well-formed instruction. -/
def encode : Instr → Word
  | .add rd rs1 rs2 => packR 0b0000000 rs2.slot rs1.slot 0b000 rd.slot 0b0110011
  | .sub rd rs1 rs2 => packR 0b0100000 rs2.slot rs1.slot 0b000 rd.slot 0b0110011
  | .sll rd rs1 rs2 => packR 0b0000000 rs2.slot rs1.slot 0b001 rd.slot 0b0110011
  | .slt rd rs1 rs2 => packR 0b0000000 rs2.slot rs1.slot 0b010 rd.slot 0b0110011
  | .sltu rd rs1 rs2 => packR 0b0000000 rs2.slot rs1.slot 0b011 rd.slot 0b0110011
  | .xor rd rs1 rs2 => packR 0b0000000 rs2.slot rs1.slot 0b100 rd.slot 0b0110011
  | .srl rd rs1 rs2 => packR 0b0000000 rs2.slot rs1.slot 0b101 rd.slot 0b0110011
  | .sra rd rs1 rs2 => packR 0b0100000 rs2.slot rs1.slot 0b101 rd.slot 0b0110011
  | .or rd rs1 rs2 => packR 0b0000000 rs2.slot rs1.slot 0b110 rd.slot 0b0110011
  | .and rd rs1 rs2 => packR 0b0000000 rs2.slot rs1.slot 0b111 rd.slot 0b0110011
  | .slli rd rs1 amount => packR 0b0000000 amount rs1.slot 0b001 rd.slot 0b0010011
  | .srli rd rs1 amount => packR 0b0000000 amount rs1.slot 0b101 rd.slot 0b0010011
  | .srai rd rs1 amount => packR 0b0100000 amount rs1.slot 0b101 rd.slot 0b0010011
  | .mul rd rs1 rs2 => packR 0b0000001 rs2.slot rs1.slot 0b000 rd.slot 0b0110011
  | .mulh rd rs1 rs2 => packR 0b0000001 rs2.slot rs1.slot 0b001 rd.slot 0b0110011
  | .mulhsu rd rs1 rs2 => packR 0b0000001 rs2.slot rs1.slot 0b010 rd.slot 0b0110011
  | .mulhu rd rs1 rs2 => packR 0b0000001 rs2.slot rs1.slot 0b011 rd.slot 0b0110011
  | .div rd rs1 rs2 => packR 0b0000001 rs2.slot rs1.slot 0b100 rd.slot 0b0110011
  | .divu rd rs1 rs2 => packR 0b0000001 rs2.slot rs1.slot 0b101 rd.slot 0b0110011
  | .rem rd rs1 rs2 => packR 0b0000001 rs2.slot rs1.slot 0b110 rd.slot 0b0110011
  | .remu rd rs1 rs2 => packR 0b0000001 rs2.slot rs1.slot 0b111 rd.slot 0b0110011
  | .addi rd rs1 imm => packI imm rs1.slot 0b000 rd.slot 0b0010011
  | .slti rd rs1 imm => packI imm rs1.slot 0b010 rd.slot 0b0010011
  | .sltiu rd rs1 imm => packI imm rs1.slot 0b011 rd.slot 0b0010011
  | .xori rd rs1 imm => packI imm rs1.slot 0b100 rd.slot 0b0010011
  | .ori rd rs1 imm => packI imm rs1.slot 0b110 rd.slot 0b0010011
  | .andi rd rs1 imm => packI imm rs1.slot 0b111 rd.slot 0b0010011
  | .lb rd rs1 imm => packI imm rs1.slot 0b000 rd.slot 0b0000011
  | .lh rd rs1 imm => packI imm rs1.slot 0b001 rd.slot 0b0000011
  | .lw rd rs1 imm => packI imm rs1.slot 0b010 rd.slot 0b0000011
  | .lbu rd rs1 imm => packI imm rs1.slot 0b100 rd.slot 0b0000011
  | .lhu rd rs1 imm => packI imm rs1.slot 0b101 rd.slot 0b0000011
  | .jalr rd rs1 imm => packI imm rs1.slot 0b000 rd.slot 0b1100111
  | .fence fm flags rs1Bits rdBits => packFence fm flags rs1Bits 0b000 rdBits
  | .fenceI fm flags rs1Bits rdBits => packFence fm flags rs1Bits 0b001 rdBits
  | .sb rs1 rs2 imm => packS imm rs2.slot rs1.slot 0b000 0b0100011
  | .sh rs1 rs2 imm => packS imm rs2.slot rs1.slot 0b001 0b0100011
  | .sw rs1 rs2 imm => packS imm rs2.slot rs1.slot 0b010 0b0100011
  | .beq rs1 rs2 offset => packSB offset rs2.slot rs1.slot 0b000 0b1100011
  | .bne rs1 rs2 offset => packSB offset rs2.slot rs1.slot 0b001 0b1100011
  | .blt rs1 rs2 offset => packSB offset rs2.slot rs1.slot 0b100 0b1100011
  | .bge rs1 rs2 offset => packSB offset rs2.slot rs1.slot 0b101 0b1100011
  | .bltu rs1 rs2 offset => packSB offset rs2.slot rs1.slot 0b110 0b1100011
  | .bgeu rs1 rs2 offset => packSB offset rs2.slot rs1.slot 0b111 0b1100011
  | .lui rd imm => packU imm rd.slot 0b0110111
  | .auipc rd imm => packU imm rd.slot 0b0010111
  | .jal rd offset => packUJ offset rd.slot 0b1101111
  | .ecall rs1Bits rdBits => packI 0b000000000000 rs1Bits 0b000 rdBits 0b1110011
  | .ebreak code rs1Bits rdBits => packI code rs1Bits 0b000 rdBits 0b1110011
  | .csrrw rd rs1 csr => packI csr rs1.slot 0b001 rd.slot 0b1110011
  | .csrrs rd rs1 csr => packI csr rs1.slot 0b010 rd.slot 0b1110011
  | .csrrc rd rs1 csr => packI csr rs1.slot 0b011 rd.slot 0b1110011
  | .csrrwi rd imm csr => packI csr imm 0b101 rd.slot 0b1110011
  | .csrrsi rd imm csr => packI csr imm 0b110 rd.slot 0b1110011
  | .csrrci rd imm csr => packI csr imm 0b111 rd.slot 0b1110011

end Sys2Proof
end

