-- ==== Sys2Proof/Machine/Flags.lean ====
section
/-! DEFINITION. Flags. The decoded instructions and the block have no condition code (10_state.md R21); the flags there
are, are the eight ordering flags of a fence (R14; 47_fence.md R180). -/

namespace Sys2Proof.Machine

/-- R180: bits 27 to 20 of the word, in that order, "each of the 8 flag bits is read in isolation". The argument is
`word[27:20]`, so that `pi` = `word[27]` is its bit 7 and `sw` = `word[20]` its bit 0. -/
def fenceOf (flags : BitVec 8) : Fence :=
  { pi := flags.getLsbD 7, po := flags.getLsbD 6, pr := flags.getLsbD 5, pw := flags.getLsbD 4
    si := flags.getLsbD 3, so := flags.getLsbD 2, sr := flags.getLsbD 1, sw := flags.getLsbD 0 }

/-- 10_state.md R17: the port `fence`, bit 7 = `pi` down to bit 0 = `sw`. -/
def fenceBits (f : Fence) : BitVec 8 :=
  BitVec.ofBool f.pi ++ BitVec.ofBool f.po ++ BitVec.ofBool f.pr ++ BitVec.ofBool f.pw ++
    BitVec.ofBool f.si ++ BitVec.ofBool f.so ++ BitVec.ofBool f.sr ++ BitVec.ofBool f.sw

end Sys2Proof.Machine
end

