-- ==== Sys2Proof/Machine/Operands.lean ====
section
/-! DEFINITION. What each operand field is worth (00_scope.md R7; 30_encoding.md R44 to R49, R63), and the record of each
extractor from its fields (R80, R82, R110, R130, R140, R150, R155, R161, R164, R165, R180). A field that a record
constructor does not name stands at the default of 10_state.md R15. -/

namespace Sys2Proof.Machine

/-! ### Immediates -/

/-- R7: `zext_N`, the non-negative integer the field spells. -/
def zext {n : Nat} (v : BitVec n) : Int := v.toNat

/-- R7: `sext_N`, `v - 2^N` if bit N-1 of `v` is 1, else `v`. -/
def sext {n : Nat} (v : BitVec n) : Int := if v.msb then (v.toNat : Int) - 2 ^ n else v.toNat

/-- R44, R45: the I and S immediate, `sext_12`. -/
def signed12 (imm : BitVec 12) : Int := sext imm

/-- R46: the SB immediate, `sext_13` of immediate[12:1] with a 0 below it. -/
def branchOffset (offset : BitVec 12) : Int := sext (offset ++ (0b0 : BitVec 1))

/-- R47: the U immediate, `zext_20`, "not shifted left and not sign-extended". -/
def upperImmediate (imm : BitVec 20) : Int := zext imm

/-- R48: the UJ immediate, `zext_21` of immediate[20:1] with a 0 below it, "assembled unsigned". -/
def jumpOffset (offset : BitVec 20) : Int := zext (offset ++ (0b0 : BitVec 1))

/-- R49: the CSR immediate, `zext_5`. -/
def csrImmediate (imm : Slot) : Int := zext imm

/-! ### The record of each extractor -/

/-- R80: the three register slots. -/
def recordR (op : Op) (rd rs1 rs2 : Register) : Instruction := { op, rd, rs1, rs2 }

/-- R82: a shift-immediate; exactly one field carries the amount. -/
def recordShift (mode : ShamtMode) (op : Op) (rd rs1 : Register) (amount : Slot) : Instruction :=
  match mode with
  | .replicate => { op, rd, rs1, rs2 := Register.ofSlot amount }
  | .wired => { op, rd, rs1, shamt := amount }

/-- R110: rd, rs1 and the sign-extended immediate. -/
def recordI (op : Op) (rd rs1 : Register) (imm : BitVec 12) : Instruction :=
  { op, rd, rs1, immediate := signed12 imm }

/-- R180: the flags, and nothing else ("`immediate` stays 0"). -/
def recordFence (op : Op) (flags : BitVec 8) : Instruction := { op, fence := some (fenceOf flags) }

/-- R130: rs1, rs2 and the sign-extended offset; the format has no rd. -/
def recordS (op : Op) (rs1 rs2 : Register) (imm : BitVec 12) : Instruction :=
  { op, rs1, rs2, immediate := signed12 imm }

/-- R140: rs1, rs2 and the signed byte offset. -/
def recordSB (op : Op) (rs1 rs2 : Register) (offset : BitVec 12) : Instruction :=
  { op, rs1, rs2, immediate := branchOffset offset }

/-- R150: rd and the unshifted immediate. -/
def recordU (op : Op) (rd : Register) (imm : BitVec 20) : Instruction :=
  { op, rd, immediate := upperImmediate imm }

/-- R155: rd and the unsigned offset. -/
def recordUJ (op : Op) (rd : Register) (offset : BitVec 20) : Instruction :=
  { op, rd, immediate := jumpOffset offset }

/-- R161: an operation with every other field at its default. -/
def recordBare (op : Op) : Instruction := { op }

/-- R164: rd, rs1 and the CSR index, unsigned. -/
def recordCsrRegister (op : Op) (rd rs1 : Register) (csr : BitVec 12) : Instruction := { op, rd, rs1, csr }

/-- R165: rd, the unsigned 5-bit immediate and the CSR index; rs1 is `Invalid`. -/
def recordCsrImmediate (op : Op) (rd : Register) (imm : Slot) (csr : BitVec 12) : Instruction :=
  { op, rd, csr, immediate := csrImmediate imm }

end Sys2Proof.Machine
end

