-- ==== Sys2Proof/Machine/State.lean ====
section
/-! DEFINITION. The machine's state, its value after reset, and the reasons a step can stop.
The block "holds no state that changes" (10_state.md R10; 70_reset_and_hazards.md R230): no field of State is an element
of the block. `cfg` is its parameter, `word` the wires its caller drives (R17), and `observed` what the caller has seen of
its present run (00_scope.md R9: "The observation of a run is the result itself"). The block's outputs are no field: they
are the function of `cfg` and the present `word` at every moment (R231; Machine/Ports.lean). See log 1 and log 3. -/

namespace Sys2Proof.Machine

/-- R9: a run "starts when `word` is presented and ends with the result; nothing carries over to the next". -/
inductive Observation where
  /-- the word is presented and the caller has not read the result -/
  | pending
  /-- the result the caller read, none where it was absent (R8, R18: "a model must represent the result as an option
  type") -/
  | result (r : Option Instruction)
  deriving DecidableEq, Repr

/-- The parameter, the input port and the observation of the present run. -/
structure State where
  /-- `P_SHAMT_MODE` (00_scope.md R5, 40_r_format.md R82), which no step changes -/
  cfg      : Config
  /-- the input port `word`, driven by the caller (R17) -/
  word     : Word
  /-- the observation of the present run (R9): the caller's, no output and no register of the block -/
  observed : Observation
  deriving DecidableEq, Repr

/-- After reset: the reference's configuration (R5), a `word` of zeros (DESIGN CHOICE, log 2: the spec requires nothing
of `word` at any time, R231), and nothing observed (log 3). -/
def State.reset : State := { cfg := Config.reference, word := 0x00000000, observed := .pending }

/-- A fault stops the machine. There is none: "The block raises nothing" for any of the 2^32 words, and the table of
its causes is empty (60_exceptions.md R211). -/
inductive Fault where
  deriving DecidableEq, Repr

/-- A refusal: the model has no meaning for the instruction. -/
inductive Refusal where
  /-- raised by an arm of `exec` whose instruction has no meaning yet, by the table's mnemonic; safe (the model stops
  where the hardware goes on). No arm raises it: all 55 instructions have their meaning. -/
  | notModelled (mnemonic : String)
  deriving DecidableEq, Repr

end Sys2Proof.Machine
end

