-- ==== Sys2Proof/Machine/Ops.lean ====
section
/-! DEFINITION. The named operations over State: the caller drives `word`, an evaluation delivers its result to the caller.
The block takes no exception and returns from none (60_exceptions.md R211, R217, R218), reads no memory and has no
register (20_memory.md R30; 10_state.md R19 to R26), so that there is no other operation. -/

namespace Sys2Proof.Machine

/-- The caller drives the input port (10_state.md R17) and so starts a run: nothing of the run before it carries over
(00_scope.md R9). -/
def State.present (s : State) (w : Word) : State := { s with word := w, observed := .pending }

/-- The caller reads this result, and the run ends (R9). -/
def State.observe (s : State) (r : Option Instruction) : State := { s with observed := .result r }

/-- A recognised word: the record, whole, is the result (60_exceptions.md R214 "all-or-nothing per word"). -/
def deliver (r : Instruction) (s : State) : Host.Outcome State Fault Refusal := .next (s.observe (some r))

/-- An unrecognised word: the result is absent, "not an exception" (30_encoding.md R55; 60_exceptions.md R210). -/
def deliverAbsent (s : State) : Host.Outcome State Fault Refusal := .next (s.observe none)

end Sys2Proof.Machine
end

