-- ==== Sys2Proof/Machine/Branch.lean ====
section
/-! DEFINITION. SB format, branches: BEQ, BNE, BLT, BGE, BLTU, BGEU (43_sb_format.md R140 to R147). The block evaluates no condition. -/

namespace Sys2Proof.Machine

/-- R142, BEQ: branch if equal. -/
def execBeq (rs1 rs2 : Register) (offset : BitVec 12) (s : State) : Host.Outcome State Fault Refusal :=
  deliver (recordSB .beq rs1 rs2 offset) s

/-- R143, BNE: branch if not equal. -/
def execBne (rs1 rs2 : Register) (offset : BitVec 12) (s : State) : Host.Outcome State Fault Refusal :=
  deliver (recordSB .bne rs1 rs2 offset) s

/-- R144, BLT: branch if less than, signed. -/
def execBlt (rs1 rs2 : Register) (offset : BitVec 12) (s : State) : Host.Outcome State Fault Refusal :=
  deliver (recordSB .blt rs1 rs2 offset) s

/-- R145, BGE: branch if greater or equal, signed. -/
def execBge (rs1 rs2 : Register) (offset : BitVec 12) (s : State) : Host.Outcome State Fault Refusal :=
  deliver (recordSB .bge rs1 rs2 offset) s

/-- R146, BLTU: branch if less than, unsigned. -/
def execBltu (rs1 rs2 : Register) (offset : BitVec 12) (s : State) : Host.Outcome State Fault Refusal :=
  deliver (recordSB .bltu rs1 rs2 offset) s

/-- R147, BGEU: branch if greater or equal, unsigned. -/
def execBgeu (rs1 rs2 : Register) (offset : BitVec 12) (s : State) : Host.Outcome State Fault Refusal :=
  deliver (recordSB .bgeu rs1 rs2 offset) s

end Sys2Proof.Machine
end

