-- ==== Sys2Proof/Machine/CsrAccess.lean ====
section
/-! DEFINITION. Special format, CSR access: CSRRW, CSRRS, CSRRC (46_special_format.md R164, R166 to R168) and CSRRWI, CSRRSI, CSRRCI
(R165, R169 to R171). The block has no CSR file and makes no check (10_state.md R22). -/

namespace Sys2Proof.Machine

/-- R166, CSRRW: atomic read/write CSR. -/
def execCsrrw (rd rs1 : Register) (csr : BitVec 12) (s : State) : Host.Outcome State Fault Refusal :=
  deliver (recordCsrRegister .csrrw rd rs1 csr) s

/-- R167, CSRRS: atomic read and set bits in CSR. -/
def execCsrrs (rd rs1 : Register) (csr : BitVec 12) (s : State) : Host.Outcome State Fault Refusal :=
  deliver (recordCsrRegister .csrrs rd rs1 csr) s

/-- R168, CSRRC: atomic read and clear bits in CSR. -/
def execCsrrc (rd rs1 : Register) (csr : BitVec 12) (s : State) : Host.Outcome State Fault Refusal :=
  deliver (recordCsrRegister .csrrc rd rs1 csr) s

/-- R169, CSRRWI: atomic read/write CSR, 5-bit immediate. -/
def execCsrrwi (rd : Register) (imm : Slot) (csr : BitVec 12) (s : State) : Host.Outcome State Fault Refusal :=
  deliver (recordCsrImmediate .csrrwi rd imm csr) s

/-- R170, CSRRSI: atomic read and set bits in CSR, 5-bit immediate. -/
def execCsrrsi (rd : Register) (imm : Slot) (csr : BitVec 12) (s : State) : Host.Outcome State Fault Refusal :=
  deliver (recordCsrImmediate .csrrsi rd imm csr) s

/-- R171, CSRRCI: atomic read and clear bits in CSR, 5-bit immediate. -/
def execCsrrci (rd : Register) (imm : Slot) (csr : BitVec 12) (s : State) : Host.Outcome State Fault Refusal :=
  deliver (recordCsrImmediate .csrrci rd imm csr) s

end Sys2Proof.Machine
end

