-- ==== Sys2Proof/Machine/Environment.lean ====
section
/-! DEFINITION. Special format: ECALL and EBREAK (46_special_format.md R161 to R163). The block names the operation; it takes no trap
(60_exceptions.md R217). -/

namespace Sys2Proof.Machine

/-- R162, ECALL: environment call. -/
def execEcall (_rs1Bits _rdBits : Slot) (s : State) : Host.Outcome State Fault Refusal :=
  deliver (recordBare .ecall) s

/-- R163, EBREAK: breakpoint. -/
def execEbreak (_code : BitVec 12) (_rs1Bits _rdBits : Slot) (s : State) : Host.Outcome State Fault Refusal :=
  deliver (recordBare .ebreak) s

end Sys2Proof.Machine
end

