-- ==== Sys2Proof/Machine/FenceOperation.lean ====
section
/-! DEFINITION. The fence extractor: FENCE and FENCE.I (47_fence.md R180 to R182). The block orders nothing (20_memory.md R37). -/

namespace Sys2Proof.Machine

/-- R181, FENCE: memory and I/O ordering fence. -/
def execFence (_fm : BitVec 4) (flags : BitVec 8) (_rs1Bits _rdBits : Slot) (s : State) : Host.Outcome State Fault Refusal :=
  deliver (recordFence .fence flags) s

/-- R182, FENCE.I: instruction-fetch fence. -/
def execFenceI (_fm : BitVec 4) (flags : BitVec 8) (_rs1Bits _rdBits : Slot) (s : State) : Host.Outcome State Fault Refusal :=
  deliver (recordFence .fenceI flags) s

end Sys2Proof.Machine
end

