-- ==== Sys2Proof/Machine/ImmediateArithmetic.lean ====
section
/-! DEFINITION. I format, immediate arithmetic: ADDI, SLTI, SLTIU, XORI, ORI, ANDI (41_i_format.md R110 to R116). The immediate is
sign-extended for all of them. -/

namespace Sys2Proof.Machine

/-- R111, ADDI: add sign-extended 12-bit immediate. -/
def execAddi (rd rs1 : Register) (imm : BitVec 12) (s : State) : Host.Outcome State Fault Refusal :=
  deliver (recordI .addi rd rs1 imm) s

/-- R112, SLTI: set if less than immediate, signed. -/
def execSlti (rd rs1 : Register) (imm : BitVec 12) (s : State) : Host.Outcome State Fault Refusal :=
  deliver (recordI .slti rd rs1 imm) s

/-- R113, SLTIU: set if less than immediate, unsigned. -/
def execSltiu (rd rs1 : Register) (imm : BitVec 12) (s : State) : Host.Outcome State Fault Refusal :=
  deliver (recordI .sltiu rd rs1 imm) s

/-- R114, XORI: exclusive or with immediate. -/
def execXori (rd rs1 : Register) (imm : BitVec 12) (s : State) : Host.Outcome State Fault Refusal :=
  deliver (recordI .xori rd rs1 imm) s

/-- R115, ORI: or with immediate. -/
def execOri (rd rs1 : Register) (imm : BitVec 12) (s : State) : Host.Outcome State Fault Refusal :=
  deliver (recordI .ori rd rs1 imm) s

/-- R116, ANDI: and with immediate. -/
def execAndi (rd rs1 : Register) (imm : BitVec 12) (s : State) : Host.Outcome State Fault Refusal :=
  deliver (recordI .andi rd rs1 imm) s

end Sys2Proof.Machine
end

