-- ==== Sys2Proof/Machine/Jump.lean ====
section
/-! DEFINITION. Jumps: JALR (41_i_format.md R122, format I) and JAL (45_uj_format.md R155, R156, format UJ). The block has no pc
(10_state.md R20). -/

namespace Sys2Proof.Machine

/-- R122, JALR: jump and link register. -/
def execJalr (rd rs1 : Register) (imm : BitVec 12) (s : State) : Host.Outcome State Fault Refusal :=
  deliver (recordI .jalr rd rs1 imm) s

/-- R156, JAL: jump and link. -/
def execJal (rd : Register) (offset : BitVec 20) (s : State) : Host.Outcome State Fault Refusal :=
  deliver (recordUJ .jal rd offset) s

end Sys2Proof.Machine
end

