-- ==== Sys2Proof/Machine/Load.lean ====
section
/-! DEFINITION. I format, loads: LB, LH, LW, LBU, LHU (41_i_format.md R110, R117 to R121). The block reads no memory (20_memory.md R30). -/

namespace Sys2Proof.Machine

/-- R117, LB: load byte, sign-extending. -/
def execLb (rd rs1 : Register) (imm : BitVec 12) (s : State) : Host.Outcome State Fault Refusal :=
  deliver (recordI .lb rd rs1 imm) s

/-- R118, LH: load halfword, sign-extending. -/
def execLh (rd rs1 : Register) (imm : BitVec 12) (s : State) : Host.Outcome State Fault Refusal :=
  deliver (recordI .lh rd rs1 imm) s

/-- R119, LW: load word. -/
def execLw (rd rs1 : Register) (imm : BitVec 12) (s : State) : Host.Outcome State Fault Refusal :=
  deliver (recordI .lw rd rs1 imm) s

/-- R120, LBU: load byte, zero-extending. -/
def execLbu (rd rs1 : Register) (imm : BitVec 12) (s : State) : Host.Outcome State Fault Refusal :=
  deliver (recordI .lbu rd rs1 imm) s

/-- R121, LHU: load halfword, zero-extending. -/
def execLhu (rd rs1 : Register) (imm : BitVec 12) (s : State) : Host.Outcome State Fault Refusal :=
  deliver (recordI .lhu rd rs1 imm) s

end Sys2Proof.Machine
end

