-- ==== Sys2Proof/Machine/MultiplyDivide.lean ====
section
/-! DEFINITION. R format, the M extension: MUL, MULH, MULHSU, MULHU, DIV, DIVU, REM, REMU (40_r_format.md R80, R96 to R103). The block
multiplies and divides nothing. -/

namespace Sys2Proof.Machine

/-- R96, MUL: multiply, low 32 bits. -/
def execMul (rd rs1 rs2 : Register) (s : State) : Host.Outcome State Fault Refusal :=
  deliver (recordR .mul rd rs1 rs2) s

/-- R97, MULH: multiply high, signed by signed. -/
def execMulh (rd rs1 rs2 : Register) (s : State) : Host.Outcome State Fault Refusal :=
  deliver (recordR .mulh rd rs1 rs2) s

/-- R98, MULHSU: multiply high, signed by unsigned. -/
def execMulhsu (rd rs1 rs2 : Register) (s : State) : Host.Outcome State Fault Refusal :=
  deliver (recordR .mulhsu rd rs1 rs2) s

/-- R99, MULHU: multiply high, unsigned by unsigned. -/
def execMulhu (rd rs1 rs2 : Register) (s : State) : Host.Outcome State Fault Refusal :=
  deliver (recordR .mulhu rd rs1 rs2) s

/-- R100, DIV: divide, signed. -/
def execDiv (rd rs1 rs2 : Register) (s : State) : Host.Outcome State Fault Refusal :=
  deliver (recordR .div rd rs1 rs2) s

/-- R101, DIVU: divide, unsigned. -/
def execDivu (rd rs1 rs2 : Register) (s : State) : Host.Outcome State Fault Refusal :=
  deliver (recordR .divu rd rs1 rs2) s

/-- R102, REM: remainder, signed. -/
def execRem (rd rs1 rs2 : Register) (s : State) : Host.Outcome State Fault Refusal :=
  deliver (recordR .rem rd rs1 rs2) s

/-- R103, REMU: remainder, unsigned. -/
def execRemu (rd rs1 rs2 : Register) (s : State) : Host.Outcome State Fault Refusal :=
  deliver (recordR .remu rd rs1 rs2) s

end Sys2Proof.Machine
end

