-- ==== Sys2Proof/Machine/RegisterArithmetic.lean ====
section
/-! DEFINITION. R format, register operations: ADD, SUB, SLL, SLT, SLTU, XOR, SRL, SRA, OR, AND (40_r_format.md R80, R83 to R92).
The block produces the record and does not compute on registers ("decoded, never executed"). -/

namespace Sys2Proof.Machine

/-- R83, ADD: register-register addition. -/
def execAdd (rd rs1 rs2 : Register) (s : State) : Host.Outcome State Fault Refusal :=
  deliver (recordR .add rd rs1 rs2) s

/-- R84, SUB: register-register subtraction. -/
def execSub (rd rs1 rs2 : Register) (s : State) : Host.Outcome State Fault Refusal :=
  deliver (recordR .sub rd rs1 rs2) s

/-- R85, SLL: shift left logical by register. -/
def execSll (rd rs1 rs2 : Register) (s : State) : Host.Outcome State Fault Refusal :=
  deliver (recordR .sll rd rs1 rs2) s

/-- R86, SLT: set if less than, signed. -/
def execSlt (rd rs1 rs2 : Register) (s : State) : Host.Outcome State Fault Refusal :=
  deliver (recordR .slt rd rs1 rs2) s

/-- R87, SLTU: set if less than, unsigned. -/
def execSltu (rd rs1 rs2 : Register) (s : State) : Host.Outcome State Fault Refusal :=
  deliver (recordR .sltu rd rs1 rs2) s

/-- R88, XOR: bitwise exclusive or. -/
def execXor (rd rs1 rs2 : Register) (s : State) : Host.Outcome State Fault Refusal :=
  deliver (recordR .xor rd rs1 rs2) s

/-- R89, SRL: shift right logical by register. -/
def execSrl (rd rs1 rs2 : Register) (s : State) : Host.Outcome State Fault Refusal :=
  deliver (recordR .srl rd rs1 rs2) s

/-- R90, SRA: shift right arithmetic by register. -/
def execSra (rd rs1 rs2 : Register) (s : State) : Host.Outcome State Fault Refusal :=
  deliver (recordR .sra rd rs1 rs2) s

/-- R91, OR: bitwise or. -/
def execOr (rd rs1 rs2 : Register) (s : State) : Host.Outcome State Fault Refusal :=
  deliver (recordR .or rd rs1 rs2) s

/-- R92, AND: bitwise and. -/
def execAnd (rd rs1 rs2 : Register) (s : State) : Host.Outcome State Fault Refusal :=
  deliver (recordR .and rd rs1 rs2) s

end Sys2Proof.Machine
end

