-- ==== Sys2Proof/Machine/ShiftImmediate.lean ====
section
/-! DEFINITION. R format, shift-immediates: SLLI, SRLI, SRAI (40_r_format.md R82, R93 to R95), in the mode of `P_SHAMT_MODE` that the
configuration holds. -/

namespace Sys2Proof.Machine

/-- R93, SLLI: shift left logical by a 5-bit immediate. -/
def execSlli (rd rs1 : Register) (amount : Slot) (s : State) : Host.Outcome State Fault Refusal :=
  deliver (recordShift s.cfg.shamtMode .slli rd rs1 amount) s

/-- R94, SRLI: shift right logical by a 5-bit immediate. -/
def execSrli (rd rs1 : Register) (amount : Slot) (s : State) : Host.Outcome State Fault Refusal :=
  deliver (recordShift s.cfg.shamtMode .srli rd rs1 amount) s

/-- R95, SRAI: shift right arithmetic by a 5-bit immediate. -/
def execSrai (rd rs1 : Register) (amount : Slot) (s : State) : Host.Outcome State Fault Refusal :=
  deliver (recordShift s.cfg.shamtMode .srai rd rs1 amount) s

end Sys2Proof.Machine
end

