-- ==== Sys2Proof/Machine/Store.lean ====
section
/-! DEFINITION. S format, stores: SB (store byte), SH, SW (42_s_format.md R130 to R133). The block writes no memory (20_memory.md R30). -/

namespace Sys2Proof.Machine

/-- R131, SB: store byte. -/
def execSb (rs1 rs2 : Register) (imm : BitVec 12) (s : State) : Host.Outcome State Fault Refusal :=
  deliver (recordS .sb rs1 rs2 imm) s

/-- R132, SH: store halfword. -/
def execSh (rs1 rs2 : Register) (imm : BitVec 12) (s : State) : Host.Outcome State Fault Refusal :=
  deliver (recordS .sh rs1 rs2 imm) s

/-- R133, SW: store word. -/
def execSw (rs1 rs2 : Register) (imm : BitVec 12) (s : State) : Host.Outcome State Fault Refusal :=
  deliver (recordS .sw rs1 rs2 imm) s

end Sys2Proof.Machine
end

