-- ==== Sys2Proof/Machine/UpperImmediate.lean ====
section
/-! DEFINITION. U format: LUI and AUIPC (44_u_format.md R150 to R152). The immediate is neither shifted nor sign-extended. -/

namespace Sys2Proof.Machine

/-- R151, LUI: load upper immediate. -/
def execLui (rd : Register) (imm : BitVec 20) (s : State) : Host.Outcome State Fault Refusal :=
  deliver (recordU .lui rd imm) s

/-- R152, AUIPC: add upper immediate to pc. -/
def execAuipc (rd : Register) (imm : BitVec 20) (s : State) : Host.Outcome State Fault Refusal :=
  deliver (recordU .auipc rd imm) s

end Sys2Proof.Machine
end

