-- ==== Sys2Proof/Machine/Step.lean ====
section
/-! DEFINITION. One step is one evaluation of the block on the word on its input port (00_scope.md R9; log 3): the word's
instruction gives the record, and a word with no instruction gives the result absent (30_encoding.md R54, R55). -/

namespace Sys2Proof.Machine

/-- The evaluation. -/
def step (s : State) : Host.Outcome State Fault Refusal :=
  match decodeWord s.word with
  | some i => exec i s
  | none => deliverAbsent s

/-- The opcode table's word on the input port, where the step takes its instruction from; nothing else is changed
(log 4). -/
def State.withFetchWord (s : State) (nbits w : Nat) : State := s.present (tableWord nbits w)

end Sys2Proof.Machine
end

