-- ==== Sys2Proof/Machine/Caller.lean ====
section
/-! DEFINITION. The caller, the only agent (00_scope.md R9): it presents a word, evaluates, and reads the result, word
after word. A program of this block is a list of words and its run the list of their results (95_test_vectors.md
section 5; log 4). -/

namespace Sys2Proof.Machine

/-- The observations of presenting the words one after another, a run each (R9), and the state at the end. A fault or a
refusal would end the list. -/
def evaluateAll : List Word → State → List Observation × State
  | [], s => ([], s)
  | w :: ws, s =>
    match step (s.present w) with
    | .next t =>
      let rest := evaluateAll ws t
      (t.observed :: rest.1, rest.2)
    | .fault _ => ([], s)
    | .refused _ => ([], s)

end Sys2Proof.Machine
end

