-- ==== Sys2Proof/Machine/Extract.lean ====
section
/-! DEFINITION. The block as the one function the spec calls it (00_scope.md R8): match, dispatch by format, extract
(30_encoding.md R54). It stands beside the machine of Step.lean, which decodes to an `Instr` and runs its meaning; that
the two agree on every word is a statement (Certificates/Slice0/Obligations.lean). -/

namespace Sys2Proof.Machine

/-- R80 and, for the three shift-immediates, R82. -/
def extractR (c : Config) (d : Descriptor) (w : Word) : Instruction :=
  match d.op with
  | .slli | .srli | .srai => recordShift c.shamtMode d.op (rdOf w) (rs1Of w) (rs2Slot w)
  | _ => recordR d.op (rdOf w) (rs1Of w) (rs2Of w)

/-- R54: the tag I feeds two bodies, the fence extractor (R180) and `extract_I` (R110). -/
def extractI (d : Descriptor) (w : Word) : Instruction :=
  if d.op = .fence ∨ d.op = .fenceI then recordFence d.op (fenceField w)
  else recordI d.op (rdOf w) (rs1Of w) (upper12 w)

/-- R130. -/
def extractS (d : Descriptor) (w : Word) : Instruction := recordS d.op (rs1Of w) (rs2Of w) (storeField w)

/-- R140. -/
def extractSB (d : Descriptor) (w : Word) : Instruction := recordSB d.op (rs1Of w) (rs2Of w) (branchField w)

/-- R150. -/
def extractU (d : Descriptor) (w : Word) : Instruction := recordU d.op (rdOf w) (upper20 w)

/-- R155. -/
def extractUJ (d : Descriptor) (w : Word) : Instruction := recordUJ d.op (rdOf w) (jumpField w)

/-- R160, R161, R164, R165: the body that `d.op` selects; `h` is the descriptor's own proof that it selects one (R172). -/
def extractSpecial (d : Descriptor) (h : (specialBody d.op).isSome = true) (w : Word) : Instruction :=
  match (specialBody d.op).get h with
  | .environment => recordBare (if upper12 w = 0 then .ecall else .ebreak)
  | .csrRegister => recordCsrRegister d.op (rdOf w) (rs1Of w) (upper12 w)
  | .csrImmediate => recordCsrImmediate d.op (rdOf w) (rs1Slot w) (upper12 w)

/-- R54: the extractor of the matched descriptor's format. -/
def extract (c : Config) (d : Descriptor) (w : Word) : Instruction :=
  match h : d.format with
  | .r => extractR c d w
  | .i => extractI d w
  | .s => extractS d w
  | .sb => extractSB d w
  | .u => extractU d w
  | .uj => extractUJ d w
  | .special => extractSpecial d (d.special_has_body h) w

/-- R8, R54, R55: `decode(word)`, none where the word is absent. -/
def decode (c : Config) (w : Word) : Option Instruction :=
  match lookup w with
  | none => none
  | some d => some (extract c d w)

end Sys2Proof.Machine
end

