-- ==== Sys2Proof/Machine/Ports.lean ====
section
/-! DEFINITION. The outputs of the block (10_state.md R17, R18): "at every moment including during and after any reset"
the function of the present `word` (70_reset_and_hazards.md R231), held in no field of State (R10, R230). -/

namespace Sys2Proof.Machine

/-- R17: the ten outputs at their widths. -/
structure Ports where
  valid        : Bool
  op           : BitVec 6
  rd           : BitVec 6
  rs1          : BitVec 6
  rs2          : BitVec 6
  csr          : BitVec 12
  shamt        : BitVec 5
  imm          : BitVec 32
  fencePresent : Bool
  fence        : BitVec 8
  deriving DecidableEq, Repr

/-- R17: the wires of a record; `imm` is `immediate mod 2^32`, and `fence` is 0 when no fence is present. -/
def portsOfRecord (r : Instruction) : Ports :=
  { valid := true, op := r.op.code, rd := r.rd.code, rs1 := r.rs1.code, rs2 := r.rs2.code, csr := r.csr
    shamt := r.shamt, imm := BitVec.ofInt 32 r.immediate, fencePresent := r.fence.isSome
    fence := match r.fence with
      | some f => fenceBits f
      | none => 0 }

/-- R18: the wires of the absent result. Only `valid` may be read (log 5). -/
def portsAbsent : Ports :=
  { valid := false, op := 63, rd := 32, rs1 := 32, rs2 := 32, csr := 0, shamt := 0, imm := 0, fencePresent := false
    fence := 0 }

/-- R17, R18: the wires of a result. -/
def portsOf (r : Option Instruction) : Ports :=
  match r with
  | some i => portsOfRecord i
  | none => portsAbsent

/-- R231: the record on the outputs at this moment, the block's function of the present `word`. -/
def State.outputs (s : State) : Option Instruction := decode s.cfg s.word

/-- R17, R231: the ten output ports at this moment. -/
def State.ports (s : State) : Ports := portsOf s.outputs

end Sys2Proof.Machine
end

