-- ==== Sys2Proof/Machine/Render.lean ====
section
/-! DEFINITION. The text renderer (49_text_renderer.md R195 to R200), software outside the block: a pure function of a
record (and of the mode its shift-immediates were decoded in, R199). `none` is the explicit "not implemented" of R197.
The templates, names and number format are the spec's own choice (92_eei_decisions.md D18). -/

namespace Sys2Proof.Machine

/-- R199: the six templates. -/
inductive Template where
  | threeRegisters | registerImmediate | shiftImmediate | branch | upper | jump
  deriving DecidableEq, Repr

/-- R196, R199: the lower-case mnemonic and template of the 27 rendered operations; none for the other 34 (R197). -/
def rendering : Op → Option (String × Template)
  | .add => some ("add", .threeRegisters)
  | .sub => some ("sub", .threeRegisters)
  | .sll => some ("sll", .threeRegisters)
  | .slt => some ("slt", .threeRegisters)
  | .sltu => some ("sltu", .threeRegisters)
  | .xor => some ("xor", .threeRegisters)
  | .srl => some ("srl", .threeRegisters)
  | .sra => some ("sra", .threeRegisters)
  | .or => some ("or", .threeRegisters)
  | .and => some ("and", .threeRegisters)
  | .addi => some ("addi", .registerImmediate)
  | .slti => some ("slti", .registerImmediate)
  | .sltiu => some ("sltiu", .registerImmediate)
  | .xori => some ("xori", .registerImmediate)
  | .ori => some ("ori", .registerImmediate)
  | .andi => some ("andi", .registerImmediate)
  | .slli => some ("slli", .shiftImmediate)
  | .srli => some ("srli", .shiftImmediate)
  | .srai => some ("srai", .shiftImmediate)
  | .beq => some ("beq", .branch)
  | .bne => some ("bne", .branch)
  | .blt => some ("blt", .branch)
  | .bge => some ("bge", .branch)
  | .bltu => some ("bltu", .branch)
  | .bgeu => some ("bgeu", .branch)
  | .auipc => some ("auipc", .upper)
  | .jal => some ("jal", .jump)
  | .mul | .mulh | .mulhsu | .mulhu | .div | .divu | .rem | .remu => none
  | .lb | .lh | .lw | .lbu | .lhu | .jalr | .fence | .fenceI | .sb | .sh | .sw | .lui => none
  | .ecall | .ebreak | .csrrw | .csrrs | .csrrc | .csrrwi | .csrrsi | .csrrci => none
  | .rdcycle | .rdcycleh | .rdtime | .rdtimeh | .rdinstret | .rdinstreth => none

/-- R198: the lower-case ABI alias; x8 prints `s0`, and `Invalid` is never printed. -/
def displayName : Register → Option String
  | .zero => some "zero"
  | .ra => some "ra"
  | .sp => some "sp"
  | .gp => some "gp"
  | .tp => some "tp"
  | .t0 => some "t0"
  | .t1 => some "t1"
  | .t2 => some "t2"
  | .s0 => some "s0"
  | .s1 => some "s1"
  | .a0 => some "a0"
  | .a1 => some "a1"
  | .a2 => some "a2"
  | .a3 => some "a3"
  | .a4 => some "a4"
  | .a5 => some "a5"
  | .a6 => some "a6"
  | .a7 => some "a7"
  | .s2 => some "s2"
  | .s3 => some "s3"
  | .s4 => some "s4"
  | .s5 => some "s5"
  | .s6 => some "s6"
  | .s7 => some "s7"
  | .s8 => some "s8"
  | .s9 => some "s9"
  | .s10 => some "s10"
  | .s11 => some "s11"
  | .t3 => some "t3"
  | .t4 => some "t4"
  | .t5 => some "t5"
  | .t6 => some "t6"
  | .invalid => none

/-- R198: signed decimal. -/
def decimal (v : Int) : String :=
  match v with
  | .ofNat n => Nat.repr n
  | .negSucc n => "-" ++ Nat.repr (n + 1)

/-- R199: the amount of a shift-immediate, `n` of `rs2 = Reg(n)` or the field `shamt`. -/
def shownAmount (mode : ShamtMode) (r : Instruction) : Option String :=
  match mode with
  | .replicate => if r.rs2.named then some (Nat.repr r.rs2.code.toNat) else none
  | .wired => some (Nat.repr r.shamt.toNat)

/-- R199: the operands of a template, in the order it prints them; none where a slot it prints holds `Invalid`, which
no word's record does (log 6). -/
def operandTexts (mode : ShamtMode) (t : Template) (r : Instruction) : List (Option String) :=
  match t with
  | .threeRegisters => [displayName r.rd, displayName r.rs1, displayName r.rs2]
  | .registerImmediate => [displayName r.rd, displayName r.rs1, some (decimal r.immediate)]
  | .shiftImmediate => [displayName r.rd, displayName r.rs1, shownAmount mode r]
  | .branch => [displayName r.rs1, displayName r.rs2, some (decimal r.immediate)]
  | .upper => [displayName r.rd, some (decimal r.immediate)]
  | .jump => [displayName r.rd, some (decimal r.immediate)]

/-- R199: "operands separated by a comma and one space". -/
def joinOperands : List (Option String) → Option String
  | [] => some ""
  | [x] => x
  | x :: xs =>
    match x, joinOperands xs with
    | some a, some b => some (a ++ ", " ++ b)
    | _, _ => none

/-- R195: `to_text(instruction)`, none where it is not implemented (R197). -/
def toText (mode : ShamtMode) (r : Instruction) : Option String :=
  match rendering r.op with
  | none => none
  | some (name, t) =>
    match joinOperands (operandTexts mode t r) with
    | none => none
    | some ops => some (name ++ " " ++ ops)

end Sys2Proof.Machine
end

