-- ==== Sys2Proof/Safety.lean ====
section
/-! DEFINITION. What counts as a sound result and a sound state, in the terms the statements use: the words that are
recognised (30_encoding.md R58), the records whose fields outside their operation's set stand at their defaults
(10_state.md R16) with their immediates in range (30_encoding.md R64), and the states whose observation is such a result,
or is what the outputs show of the present word (70_reset_and_hazards.md R231). -/

namespace Sys2Proof.Machine

/-- R58: the selectors of the recognised words, opcode by opcode as the rule's table lists them. -/
def recognised (x : Selectors) : Bool :=
  match x.opcode with
  | 0b0000011 => [0b000, 0b001, 0b010, 0b100, 0b101].contains x.funct3
  | 0b0001111 => [0b000, 0b001].contains x.funct3
  | 0b0010011 =>
    [0b000, 0b010, 0b011, 0b100, 0b110, 0b111].contains x.funct3 ||
      (x.funct3 == 0b001 && x.funct7 == 0b0000000) ||
      (x.funct3 == 0b101 && [0b0000000, 0b0100000].contains x.funct7)
  | 0b0010111 => true
  | 0b0100011 => [0b000, 0b001, 0b010].contains x.funct3
  | 0b0110011 =>
    x.funct7 == 0b0000000 || (x.funct7 == 0b0100000 && [0b000, 0b101].contains x.funct3) || x.funct7 == 0b0000001
  | 0b0110111 => true
  | 0b1100011 => [0b000, 0b001, 0b100, 0b101, 0b110, 0b111].contains x.funct3
  | 0b1100111 => x.funct3 == 0b000
  | 0b1101111 => true
  | 0b1110011 => [0b000, 0b001, 0b010, 0b011, 0b101, 0b110, 0b111].contains x.funct3
  | _ => false

/-- R16: the eleven rows of the table of meaningful fields. -/
inductive FieldSet where
  | registers | shift | immediate | fence | store | branch | upper | jump | environment | csrRegister | csrImmediate
  deriving DecidableEq, Repr

/-- R16: the row of an operation; none for a reserved one (R190: "no field set"). -/
def fieldSet : Op → Option FieldSet
  | .add | .sub | .sll | .slt | .sltu | .xor | .srl | .sra | .or | .and => some .registers
  | .mul | .mulh | .mulhsu | .mulhu | .div | .divu | .rem | .remu => some .registers
  | .slli | .srli | .srai => some .shift
  | .addi | .slti | .sltiu | .xori | .ori | .andi | .lb | .lh | .lw | .lbu | .lhu | .jalr => some .immediate
  | .fence | .fenceI => some .fence
  | .sb | .sh | .sw => some .store
  | .beq | .bne | .blt | .bge | .bltu | .bgeu => some .branch
  | .lui | .auipc => some .upper
  | .jal => some .jump
  | .ecall | .ebreak => some .environment
  | .csrrw | .csrrs | .csrrc => some .csrRegister
  | .csrrwi | .csrrsi | .csrrci => some .csrImmediate
  | .rdcycle | .rdcycleh | .rdtime | .rdtimeh | .rdinstret | .rdinstreth => none

/-- The fields a record may set: the three register slots, then `csr`, `shamt`, `immediate` and `fence`. A slot that is
set names one of x0 to x31 (R12), one that is not is `Invalid`; `immediate` is bounded as R64 says, and every other field
that is not set is at its default (R15). -/
def fieldsAre (r : Instruction) (rd rs1 rs2 csr shamt : Bool) (low high step : Int) (fence : Bool) : Bool :=
  r.rd.named == rd && r.rs1.named == rs1 && r.rs2.named == rs2 && (csr || r.csr == 0) && (shamt || r.shamt == 0) &&
    decide (low ≤ r.immediate) && decide (r.immediate ≤ high) && decide (r.immediate % step = 0) &&
    r.fence.isSome == fence

/-- R16 with R64: the record is one its operation may give in this mode. -/
def conforms (mode : ShamtMode) (r : Instruction) : Bool :=
  match fieldSet r.op with
  | none => false
  | some .registers => fieldsAre r true true true false false 0 0 1 false
  | some .shift =>
    match mode with
    | .replicate => fieldsAre r true true true false false 0 0 1 false
    | .wired => fieldsAre r true true false false true 0 0 1 false
  | some .immediate => fieldsAre r true true false false false (-2048) 2047 1 false
  | some .fence => fieldsAre r false false false false false 0 0 1 true
  | some .store => fieldsAre r false true true false false (-2048) 2047 1 false
  | some .branch => fieldsAre r false true true false false (-4096) 4094 2 false
  | some .upper => fieldsAre r true false false false false 0 1048575 1 false
  | some .jump => fieldsAre r true false false false false 0 2097150 2 false
  | some .environment => fieldsAre r false false false false false 0 0 1 false
  | some .csrRegister => fieldsAre r true true false true false 0 0 1 false
  | some .csrImmediate => fieldsAre r true false false true false 0 31 1 false

/-- R16: a result is absent or a conforming record. -/
def soundResult (mode : ShamtMode) (r : Option Instruction) : Bool :=
  match r with
  | none => true
  | some i => conforms mode i

/-- What an observation says, if it says anything. -/
def Observation.holds (o : Observation) (p : Option Instruction → Prop) : Prop :=
  match o with
  | .pending => True
  | .result r => p r

/-- What is observed is a result the block can give in this configuration (R16). -/
def State.Sound (s : State) : Prop := s.observed.holds (fun r => soundResult s.cfg.shamtMode r = true)

/-- What is observed is what the outputs show of the present word (R9, R231): no observation outlives its word. -/
def State.Faithful (s : State) : Prop := s.observed.holds (fun r => r = s.outputs)

end Sys2Proof.Machine
end

