-- ==== Sys2Proof/Certificates/Slice0/Obligations.lean ====
section
/-! DEFINITION. The statements for the provers. The left side of each is the model; the right side is written from the
rules' own text, in the notation of 00_scope.md R6 and R7 over natural numbers, and calls none of the model's fields,
immediates or records. -/

namespace Sys2Proof.Claim

open Sys2Proof.Machine

/-! ### The notation of R6 and R7 -/

/-- R6: `word[hi:lo]`, "value `(word >> lo) & (2^(hi-lo+1) - 1)`". -/
def bits (w : Word) (hi lo : Nat) : Nat := (w.toNat >>> lo) &&& (2 ^ (hi - lo + 1) - 1)

/-- R7: `sext_N(v)`, "`v - 2^N` if bit N-1 of `v` is 1, else `v`". -/
def sextN (n v : Nat) : Int := if v.testBit (n - 1) then (v : Int) - 2 ^ n else v

/-- R7: `Reg(word[hi:lo])`. -/
def reg (w : Word) (hi lo : Nat) : Register := Register.ofNumber (bits w hi lo)

/-- A flag, "true exactly when its bit is 1" (R180). -/
def flag (w : Word) (n : Nat) : Bool := bits w n n == 1

/-! ### The records of the extractors, from their rules -/

/-- R80. -/
def ruleR (op : Op) (_ : Config) (w : Word) : Instruction :=
  { op := op, rd := reg w 11 7, rs1 := reg w 19 15, rs2 := reg w 24 20 }

/-- R82. -/
def ruleShift (op : Op) (c : Config) (w : Word) : Instruction :=
  match c.shamtMode with
  | .replicate => ruleR op c w
  | .wired => { op := op, rd := reg w 11 7, rs1 := reg w 19 15, shamt := BitVec.ofNat 5 (bits w 24 20) }

/-- R110. -/
def ruleI (op : Op) (_ : Config) (w : Word) : Instruction :=
  { op := op, rd := reg w 11 7, rs1 := reg w 19 15, immediate := sextN 12 (bits w 31 20) }

/-- R180. -/
def ruleFence (op : Op) (_ : Config) (w : Word) : Instruction :=
  { op := op
    fence := some { pi := flag w 27, po := flag w 26, pr := flag w 25, pw := flag w 24
                    si := flag w 23, so := flag w 22, sr := flag w 21, sw := flag w 20 } }

/-- R130: `sext_12(word[31:25] ++ word[11:7])`. -/
def ruleS (op : Op) (_ : Config) (w : Word) : Instruction :=
  { op := op, rs1 := reg w 19 15, rs2 := reg w 24 20, immediate := sextN 12 (bits w 31 25 * 2 ^ 5 + bits w 11 7) }

/-- R46: the 13 bits `word[31] ++ word[7] ++ word[30:25] ++ word[11:8] ++ 0b0`. -/
def rawSB (w : Word) : Nat := bits w 31 31 * 2 ^ 12 + bits w 7 7 * 2 ^ 11 + bits w 30 25 * 2 ^ 5 + bits w 11 8 * 2

/-- R140. -/
def ruleSB (op : Op) (_ : Config) (w : Word) : Instruction :=
  { op := op, rs1 := reg w 19 15, rs2 := reg w 24 20, immediate := sextN 13 (rawSB w) }

/-- R150. -/
def ruleU (op : Op) (_ : Config) (w : Word) : Instruction :=
  { op := op, rd := reg w 11 7, immediate := bits w 31 12 }

/-- R155: `(word[31] << 20) | (word & 0x000ff000) | (word[20] << 11) | (word[30:21] << 1)`. -/
def immUJ (w : Word) : Nat :=
  (bits w 31 31 <<< 20) ||| (w.toNat &&& 0x000ff000) ||| (bits w 20 20 <<< 11) ||| (bits w 30 21 <<< 1)

/-- R155. -/
def ruleUJ (op : Op) (_ : Config) (w : Word) : Instruction :=
  { op := op, rd := reg w 11 7, immediate := immUJ w }

/-- R161. -/
def ruleBare (op : Op) (_ : Config) (_ : Word) : Instruction := { op := op }

/-- R164. -/
def ruleCsrRegister (op : Op) (_ : Config) (w : Word) : Instruction :=
  { op := op, rd := reg w 11 7, rs1 := reg w 19 15, csr := BitVec.ofNat 12 (bits w 31 20) }

/-- R165. -/
def ruleCsrImmediate (op : Op) (_ : Config) (w : Word) : Instruction :=
  { op := op, rd := reg w 11 7, csr := BitVec.ofNat 12 (bits w 31 20), immediate := bits w 19 15 }

/-! ### The shapes of the statements -/

/-- The word meets a descriptor's match and mask (R51, R52). -/
def masked (mask value : Word) (w : Word) : Prop := w &&& mask = value

/-- An instruction's rule on words: in every state a step answers a next state that differs in the observation alone
("State written: none", "Exceptions: none"); on the words the rule names the result is the rule's record, and on no other
word is it a record of this operation. -/
def DecodesExactly (op : Op) (hits : Word → Prop) (record : Config → Word → Instruction) : Prop :=
  ∀ s : State, ∃ r : Option Instruction, step s = .next { s with observed := .result r } ∧
    (hits s.word → r = some (record s.cfg s.word)) ∧
    (¬ hits s.word → ∀ x, r = some x → x.op ≠ op)

/-- Of the words with this opcode, those that none of the rows (mask, value) takes in are absent. -/
def OthersAbsent (opcode : Nat) (rows : List (Word × Word)) : Prop :=
  ∀ s : State, bits s.word 6 0 = opcode → (∀ p ∈ rows, ¬ masked p.1 p.2 s.word) →
    step s = .next { s with observed := .result none }

/-- R81: the recognised (funct7, funct3) pairs of opcode 0b0110011, as masks. -/
def registerRows : List (Word × Word) :=
  [(0xfe00707f, 0x40000033), (0xfe00707f, 0x40005033), (0xfe00007f, 0x00000033), (0xfe00007f, 0x02000033)]

/-- R81: the recognised selectors of opcode 0b0010011, as masks. -/
def immediateRows : List (Word × Word) :=
  [(0xfe00707f, 0x00001013), (0xfe00707f, 0x00005013), (0xfe00707f, 0x40005013), (0x0000707f, 0x00000013),
   (0x0000707f, 0x00002013), (0x0000707f, 0x00003013), (0x0000707f, 0x00004013), (0x0000707f, 0x00006013),
   (0x0000707f, 0x00007013)]

/-- The meaning of `i` answers a next state in which the record is observed, all else as before. -/
def Completes (i : Instr) (s : State) (r : Instruction) : Prop := exec i s = .next { s with observed := .result (some r) }

end Sys2Proof.Claim

open Sys2Proof Sys2Proof.Machine Sys2Proof.Claim

/-! ### The data model, reset, the step -/

/-- R12: numeric decode, 0 to 31 a named register with that number on the ports, anything else `Invalid`. -/
def Obligations.NumbersDecodeToRegisters : Prop :=
  (∀ n : Nat, n < 32 → (Register.ofNumber n).named = true ∧ (Register.ofNumber n).code.toNat = n) ∧
  (∀ n : Nat, 32 ≤ n → Register.ofNumber n = .invalid)

/-- The five vectors of the source (95_test_vectors.md V1 to V5), their words written out field by field. -/
def Obligations.SourceVectorsDecode : Prop :=
  decodeWord 0b0000000_01100_01011_000_01010_0110011 = some (.add .a0 .a1 .a2) ∧
  decodeWord 0b000100100011_01011_000_01010_0010011 = some (.addi .a0 .a1 0x123) ∧
  decodeWord 0b111111111111_00011_111_01001_0010011 = some (.andi .s1 .gp 0xfff) ∧
  decodeWord 0b00010010001101000101_01010_0010111 = some (.auipc .a0 0x12345) ∧
  decodeWord 0b0_000000_01011_01010_000_0110_0_1100011 = some (.beq .a0 .a1 6)

/-- A step runs the decoded instruction: where the word on the input port decodes to `i`, the step is the meaning of `i`
in the same state, with nothing around it; where it decodes to nothing the result observed is absent. -/
def Obligations.StepRunsDecodedInstruction : Prop :=
  (∀ (s : State) (i : Instr), decodeWord s.word = some i → step s = exec i s) ∧
  (∀ s : State, decodeWord s.word = none → step s = .next { s with observed := .result none })

/-- What reset leaves: the default of `P_SHAMT_MODE` (R5, R82), and outputs that are, whatever value X `word` is held at
during reset, the ports of `decode(X)` (R231). The value of `word` at reset is the model's choice (log 2), and this
statement says nothing of it. -/
def Obligations.ResetDefaultsAndOutputs : Prop :=
  State.reset.cfg.shamtMode = .replicate ∧
  ∀ x : Word, ({ State.reset with word := x } : State).ports = portsOf (decode { shamtMode := .replicate } x)

/-- The invariants of the statements below hold after reset. That nothing is observed then is the model's choice
(log 3). -/
def Obligations.ResetIsFaithfulAndSound : Prop := State.reset.Faithful ∧ State.reset.Sound

/-! ### Every meaning completes, for all operands and states -/

/-- R80, R83 to R92, R96 to R103: the eighteen three-register operations complete on all operands. -/
def Obligations.ThreeRegisterMeaningsComplete : Prop :=
  ∀ (rd rs1 rs2 : Register) (s : State),
    Completes (.add rd rs1 rs2) s { op := .add, rd := rd, rs1 := rs1, rs2 := rs2 } ∧
    Completes (.sub rd rs1 rs2) s { op := .sub, rd := rd, rs1 := rs1, rs2 := rs2 } ∧
    Completes (.sll rd rs1 rs2) s { op := .sll, rd := rd, rs1 := rs1, rs2 := rs2 } ∧
    Completes (.slt rd rs1 rs2) s { op := .slt, rd := rd, rs1 := rs1, rs2 := rs2 } ∧
    Completes (.sltu rd rs1 rs2) s { op := .sltu, rd := rd, rs1 := rs1, rs2 := rs2 } ∧
    Completes (.xor rd rs1 rs2) s { op := .xor, rd := rd, rs1 := rs1, rs2 := rs2 } ∧
    Completes (.srl rd rs1 rs2) s { op := .srl, rd := rd, rs1 := rs1, rs2 := rs2 } ∧
    Completes (.sra rd rs1 rs2) s { op := .sra, rd := rd, rs1 := rs1, rs2 := rs2 } ∧
    Completes (.or rd rs1 rs2) s { op := .or, rd := rd, rs1 := rs1, rs2 := rs2 } ∧
    Completes (.and rd rs1 rs2) s { op := .and, rd := rd, rs1 := rs1, rs2 := rs2 } ∧
    Completes (.mul rd rs1 rs2) s { op := .mul, rd := rd, rs1 := rs1, rs2 := rs2 } ∧
    Completes (.mulh rd rs1 rs2) s { op := .mulh, rd := rd, rs1 := rs1, rs2 := rs2 } ∧
    Completes (.mulhsu rd rs1 rs2) s { op := .mulhsu, rd := rd, rs1 := rs1, rs2 := rs2 } ∧
    Completes (.mulhu rd rs1 rs2) s { op := .mulhu, rd := rd, rs1 := rs1, rs2 := rs2 } ∧
    Completes (.div rd rs1 rs2) s { op := .div, rd := rd, rs1 := rs1, rs2 := rs2 } ∧
    Completes (.divu rd rs1 rs2) s { op := .divu, rd := rd, rs1 := rs1, rs2 := rs2 } ∧
    Completes (.rem rd rs1 rs2) s { op := .rem, rd := rd, rs1 := rs1, rs2 := rs2 } ∧
    Completes (.remu rd rs1 rs2) s { op := .remu, rd := rd, rs1 := rs1, rs2 := rs2 }

/-- R82, R93 to R95: the shift-immediates complete in both modes; the amount stands in `rs2` as a register name, or in
`shamt`. -/
def Obligations.ShiftImmediateMeaningsComplete : Prop :=
  ∀ (rd rs1 : Register) (amount : Slot) (s : State),
    (s.cfg.shamtMode = .replicate →
      Completes (.slli rd rs1 amount) s { op := .slli, rd := rd, rs1 := rs1, rs2 := Register.ofNumber amount.toNat } ∧
      Completes (.srli rd rs1 amount) s { op := .srli, rd := rd, rs1 := rs1, rs2 := Register.ofNumber amount.toNat } ∧
      Completes (.srai rd rs1 amount) s { op := .srai, rd := rd, rs1 := rs1, rs2 := Register.ofNumber amount.toNat }) ∧
    (s.cfg.shamtMode = .wired →
      Completes (.slli rd rs1 amount) s { op := .slli, rd := rd, rs1 := rs1, shamt := amount } ∧
      Completes (.srli rd rs1 amount) s { op := .srli, rd := rd, rs1 := rs1, shamt := amount } ∧
      Completes (.srai rd rs1 amount) s { op := .srai, rd := rd, rs1 := rs1, shamt := amount })

/-- R110 to R122: the twelve I-format operations complete, the immediate sign-extended for every one of them. -/
def Obligations.ImmediateMeaningsComplete : Prop :=
  ∀ (rd rs1 : Register) (imm : BitVec 12) (s : State),
    Completes (.addi rd rs1 imm) s { op := .addi, rd := rd, rs1 := rs1, immediate := sextN 12 imm.toNat } ∧
    Completes (.slti rd rs1 imm) s { op := .slti, rd := rd, rs1 := rs1, immediate := sextN 12 imm.toNat } ∧
    Completes (.sltiu rd rs1 imm) s { op := .sltiu, rd := rd, rs1 := rs1, immediate := sextN 12 imm.toNat } ∧
    Completes (.xori rd rs1 imm) s { op := .xori, rd := rd, rs1 := rs1, immediate := sextN 12 imm.toNat } ∧
    Completes (.ori rd rs1 imm) s { op := .ori, rd := rd, rs1 := rs1, immediate := sextN 12 imm.toNat } ∧
    Completes (.andi rd rs1 imm) s { op := .andi, rd := rd, rs1 := rs1, immediate := sextN 12 imm.toNat } ∧
    Completes (.lb rd rs1 imm) s { op := .lb, rd := rd, rs1 := rs1, immediate := sextN 12 imm.toNat } ∧
    Completes (.lh rd rs1 imm) s { op := .lh, rd := rd, rs1 := rs1, immediate := sextN 12 imm.toNat } ∧
    Completes (.lw rd rs1 imm) s { op := .lw, rd := rd, rs1 := rs1, immediate := sextN 12 imm.toNat } ∧
    Completes (.lbu rd rs1 imm) s { op := .lbu, rd := rd, rs1 := rs1, immediate := sextN 12 imm.toNat } ∧
    Completes (.lhu rd rs1 imm) s { op := .lhu, rd := rd, rs1 := rs1, immediate := sextN 12 imm.toNat } ∧
    Completes (.jalr rd rs1 imm) s { op := .jalr, rd := rd, rs1 := rs1, immediate := sextN 12 imm.toNat }

/-- R180 to R182: the two fences complete; each flag is one bit of the field, and the ignored bits change nothing. -/
def Obligations.FenceMeaningsComplete : Prop :=
  ∀ (fm : BitVec 4) (flags : BitVec 8) (rs1Bits rdBits : Slot) (s : State),
    let fence : Fence :=
      { pi := flags.toNat.testBit 7, po := flags.toNat.testBit 6, pr := flags.toNat.testBit 5, pw := flags.toNat.testBit 4
        si := flags.toNat.testBit 3, so := flags.toNat.testBit 2, sr := flags.toNat.testBit 1, sw := flags.toNat.testBit 0 }
    Completes (.fence fm flags rs1Bits rdBits) s { op := .fence, fence := some fence } ∧
    Completes (.fenceI fm flags rs1Bits rdBits) s { op := .fenceI, fence := some fence }

/-- R130 to R133: the three stores complete; the format has no rd. -/
def Obligations.StoreMeaningsComplete : Prop :=
  ∀ (rs1 rs2 : Register) (imm : BitVec 12) (s : State),
    Completes (.sb rs1 rs2 imm) s { op := .sb, rs1 := rs1, rs2 := rs2, immediate := sextN 12 imm.toNat } ∧
    Completes (.sh rs1 rs2 imm) s { op := .sh, rs1 := rs1, rs2 := rs2, immediate := sextN 12 imm.toNat } ∧
    Completes (.sw rs1 rs2 imm) s { op := .sw, rs1 := rs1, rs2 := rs2, immediate := sextN 12 imm.toNat }

/-- R140, R142 to R147: the six branches complete; the operand is immediate[12:1], the record the even byte offset. -/
def Obligations.BranchMeaningsComplete : Prop :=
  ∀ (rs1 rs2 : Register) (offset : BitVec 12) (s : State),
    Completes (.beq rs1 rs2 offset) s { op := .beq, rs1 := rs1, rs2 := rs2, immediate := 2 * sextN 12 offset.toNat } ∧
    Completes (.bne rs1 rs2 offset) s { op := .bne, rs1 := rs1, rs2 := rs2, immediate := 2 * sextN 12 offset.toNat } ∧
    Completes (.blt rs1 rs2 offset) s { op := .blt, rs1 := rs1, rs2 := rs2, immediate := 2 * sextN 12 offset.toNat } ∧
    Completes (.bge rs1 rs2 offset) s { op := .bge, rs1 := rs1, rs2 := rs2, immediate := 2 * sextN 12 offset.toNat } ∧
    Completes (.bltu rs1 rs2 offset) s { op := .bltu, rs1 := rs1, rs2 := rs2, immediate := 2 * sextN 12 offset.toNat } ∧
    Completes (.bgeu rs1 rs2 offset) s { op := .bgeu, rs1 := rs1, rs2 := rs2, immediate := 2 * sextN 12 offset.toNat }

/-- R150 to R152, R155, R156: LUI, AUIPC and JAL complete; the immediates are never negative. -/
def Obligations.UpperAndJumpMeaningsComplete : Prop :=
  ∀ (rd : Register) (imm : BitVec 20) (s : State),
    Completes (.lui rd imm) s { op := .lui, rd := rd, immediate := imm.toNat } ∧
    Completes (.auipc rd imm) s { op := .auipc, rd := rd, immediate := imm.toNat } ∧
    Completes (.jal rd imm) s { op := .jal, rd := rd, immediate := 2 * imm.toNat }

/-- R161 to R163: ECALL and EBREAK complete with every operand field at its default; no trap is taken. EBREAK with
`code` = 0 has the word of ECALL (R161), so that no word decodes to it and it is not well formed: that its meaning answers
for it too is the model's own choice (log 8), and no rule's. -/
def Obligations.EnvironmentMeaningsComplete : Prop :=
  ∀ (code : BitVec 12) (rs1Bits rdBits : Slot) (s : State),
    Completes (.ecall rs1Bits rdBits) s { op := .ecall } ∧
    Completes (.ebreak code rs1Bits rdBits) s { op := .ebreak }

/-- R164 to R171: the six CSR operations complete for every CSR index; no check is made. -/
def Obligations.CsrMeaningsComplete : Prop :=
  ∀ (rd rs1 : Register) (imm : Slot) (csr : BitVec 12) (s : State),
    Completes (.csrrw rd rs1 csr) s { op := .csrrw, rd := rd, rs1 := rs1, csr := csr } ∧
    Completes (.csrrs rd rs1 csr) s { op := .csrrs, rd := rd, rs1 := rs1, csr := csr } ∧
    Completes (.csrrc rd rs1 csr) s { op := .csrrc, rd := rd, rs1 := rs1, csr := csr } ∧
    Completes (.csrrwi rd imm csr) s { op := .csrrwi, rd := rd, csr := csr, immediate := imm.toNat } ∧
    Completes (.csrrsi rd imm csr) s { op := .csrrsi, rd := rd, csr := csr, immediate := imm.toNat } ∧
    Completes (.csrrci rd imm csr) s { op := .csrrci, rd := rd, csr := csr, immediate := imm.toNat }

/-- The frame of every instruction: its meaning leaves the input port and the configuration as they are, and the
result observed is a record of its own operation. -/
def Obligations.MeaningsChangeTheResultAlone : Prop :=
  ∀ (i : Instr) (s t : State), exec i s = .next t →
    t.cfg = s.cfg ∧ t.word = s.word ∧ ∃ r, t.observed = .result (some r) ∧ r.op = i.op

/-! ### Every instruction's rule, on words -/

/-- R83 to R92 on words: exactly the words of each rule give its record, and the words of their opcode with any other
selectors than R81 lists are absent. -/
def Obligations.RegisterArithmeticWords : Prop :=
  DecodesExactly .add (masked 0xfe00707f 0x00000033) (ruleR .add) ∧
  DecodesExactly .sub (masked 0xfe00707f 0x40000033) (ruleR .sub) ∧
  DecodesExactly .sll (masked 0xfe00707f 0x00001033) (ruleR .sll) ∧
  DecodesExactly .slt (masked 0xfe00707f 0x00002033) (ruleR .slt) ∧
  DecodesExactly .sltu (masked 0xfe00707f 0x00003033) (ruleR .sltu) ∧
  DecodesExactly .xor (masked 0xfe00707f 0x00004033) (ruleR .xor) ∧
  DecodesExactly .srl (masked 0xfe00707f 0x00005033) (ruleR .srl) ∧
  DecodesExactly .sra (masked 0xfe00707f 0x40005033) (ruleR .sra) ∧
  DecodesExactly .or (masked 0xfe00707f 0x00006033) (ruleR .or) ∧
  DecodesExactly .and (masked 0xfe00707f 0x00007033) (ruleR .and) ∧
  OthersAbsent 0b0110011 registerRows

/-- R93 to R95 on words, in both modes of `P_SHAMT_MODE` (R82); any other funct7 on their funct3 is absent. -/
def Obligations.ShiftImmediateWords : Prop :=
  DecodesExactly .slli (masked 0xfe00707f 0x00001013) (ruleShift .slli) ∧
  DecodesExactly .srli (masked 0xfe00707f 0x00005013) (ruleShift .srli) ∧
  DecodesExactly .srai (masked 0xfe00707f 0x40005013) (ruleShift .srai) ∧
  OthersAbsent 0b0010011 immediateRows

/-- R96 to R103 on words; a word of their opcode is one of these, another operation of R81's list, or absent. -/
def Obligations.MultiplyDivideWords : Prop :=
  DecodesExactly .mul (masked 0xfe00707f 0x02000033) (ruleR .mul) ∧
  DecodesExactly .mulh (masked 0xfe00707f 0x02001033) (ruleR .mulh) ∧
  DecodesExactly .mulhsu (masked 0xfe00707f 0x02002033) (ruleR .mulhsu) ∧
  DecodesExactly .mulhu (masked 0xfe00707f 0x02003033) (ruleR .mulhu) ∧
  DecodesExactly .div (masked 0xfe00707f 0x02004033) (ruleR .div) ∧
  DecodesExactly .divu (masked 0xfe00707f 0x02005033) (ruleR .divu) ∧
  DecodesExactly .rem (masked 0xfe00707f 0x02006033) (ruleR .rem) ∧
  DecodesExactly .remu (masked 0xfe00707f 0x02007033) (ruleR .remu) ∧
  OthersAbsent 0b0110011 registerRows

/-- R111 to R116 on words. -/
def Obligations.ImmediateArithmeticWords : Prop :=
  DecodesExactly .addi (masked 0x0000707f 0x00000013) (ruleI .addi) ∧
  DecodesExactly .slti (masked 0x0000707f 0x00002013) (ruleI .slti) ∧
  DecodesExactly .sltiu (masked 0x0000707f 0x00003013) (ruleI .sltiu) ∧
  DecodesExactly .xori (masked 0x0000707f 0x00004013) (ruleI .xori) ∧
  DecodesExactly .ori (masked 0x0000707f 0x00006013) (ruleI .ori) ∧
  DecodesExactly .andi (masked 0x0000707f 0x00007013) (ruleI .andi)

/-- R117 to R121 on words; funct3 011, 110 and 111 are absent. -/
def Obligations.LoadWords : Prop :=
  DecodesExactly .lb (masked 0x0000707f 0x00000003) (ruleI .lb) ∧
  DecodesExactly .lh (masked 0x0000707f 0x00001003) (ruleI .lh) ∧
  DecodesExactly .lw (masked 0x0000707f 0x00002003) (ruleI .lw) ∧
  DecodesExactly .lbu (masked 0x0000707f 0x00004003) (ruleI .lbu) ∧
  DecodesExactly .lhu (masked 0x0000707f 0x00005003) (ruleI .lhu) ∧
  OthersAbsent 0b0000011
    [(0x0000707f, 0x00000003), (0x0000707f, 0x00001003), (0x0000707f, 0x00002003), (0x0000707f, 0x00004003),
     (0x0000707f, 0x00005003)]

/-- R122 and R156 on words: JALR's signed offset, JAL's unsigned one; funct3 001 to 111 on JALR's opcode are absent. -/
def Obligations.JumpWords : Prop :=
  DecodesExactly .jalr (masked 0x0000707f 0x00000067) (ruleI .jalr) ∧
  DecodesExactly .jal (masked 0x0000007f 0x0000006f) (ruleUJ .jal) ∧
  OthersAbsent 0b1100111 [(0x0000707f, 0x00000067)]

/-- R181 and R182 on words. -/
def Obligations.FenceWords : Prop :=
  DecodesExactly .fence (masked 0x0000707f 0x0000000f) (ruleFence .fence) ∧
  DecodesExactly .fenceI (masked 0x0000707f 0x0000100f) (ruleFence .fenceI)

/-- R131 to R133 on words; funct3 011 to 111 are absent. -/
def Obligations.StoreWords : Prop :=
  DecodesExactly .sb (masked 0x0000707f 0x00000023) (ruleS .sb) ∧
  DecodesExactly .sh (masked 0x0000707f 0x00001023) (ruleS .sh) ∧
  DecodesExactly .sw (masked 0x0000707f 0x00002023) (ruleS .sw) ∧
  OthersAbsent 0b0100011 [(0x0000707f, 0x00000023), (0x0000707f, 0x00001023), (0x0000707f, 0x00002023)]

/-- R141 to R147 on words: the branches are told apart by funct3, and funct3 010 and 011 are absent. -/
def Obligations.BranchWords : Prop :=
  DecodesExactly .beq (masked 0x0000707f 0x00000063) (ruleSB .beq) ∧
  DecodesExactly .bne (masked 0x0000707f 0x00001063) (ruleSB .bne) ∧
  DecodesExactly .blt (masked 0x0000707f 0x00004063) (ruleSB .blt) ∧
  DecodesExactly .bge (masked 0x0000707f 0x00005063) (ruleSB .bge) ∧
  DecodesExactly .bltu (masked 0x0000707f 0x00006063) (ruleSB .bltu) ∧
  DecodesExactly .bgeu (masked 0x0000707f 0x00007063) (ruleSB .bgeu) ∧
  OthersAbsent 0b1100011
    [(0x0000707f, 0x00000063), (0x0000707f, 0x00001063), (0x0000707f, 0x00004063), (0x0000707f, 0x00005063),
     (0x0000707f, 0x00006063), (0x0000707f, 0x00007063)]

/-- R151 and R152 on words. -/
def Obligations.UpperImmediateWords : Prop :=
  DecodesExactly .lui (masked 0x0000007f 0x00000037) (ruleU .lui) ∧
  DecodesExactly .auipc (masked 0x0000007f 0x00000017) (ruleU .auipc)

/-- R161 to R163 on words: the shared shape gives ECALL where `word[31:20]` is zero and EBREAK at every other value. -/
def Obligations.EnvironmentWords : Prop :=
  DecodesExactly .ecall (fun w => masked 0x0000707f 0x00000073 w ∧ bits w 31 20 = 0) (ruleBare .ecall) ∧
  DecodesExactly .ebreak (fun w => masked 0x0000707f 0x00000073 w ∧ bits w 31 20 ≠ 0) (ruleBare .ebreak)

/-- R164, R166 to R168 on words. -/
def Obligations.CsrRegisterWords : Prop :=
  DecodesExactly .csrrw (masked 0x0000707f 0x00001073) (ruleCsrRegister .csrrw) ∧
  DecodesExactly .csrrs (masked 0x0000707f 0x00002073) (ruleCsrRegister .csrrs) ∧
  DecodesExactly .csrrc (masked 0x0000707f 0x00003073) (ruleCsrRegister .csrrc)

/-- R165, R169 to R171 on words. -/
def Obligations.CsrImmediateWords : Prop :=
  DecodesExactly .csrrwi (masked 0x0000707f 0x00005073) (ruleCsrImmediate .csrrwi) ∧
  DecodesExactly .csrrsi (masked 0x0000707f 0x00006073) (ruleCsrImmediate .csrrsi) ∧
  DecodesExactly .csrrci (masked 0x0000707f 0x00007073) (ruleCsrImmediate .csrrci)

/-! ### The headline statements -/

/-- R8, R54, R55: the machine is the spec's one function. In every state a step answers a next state in which the result
observed is `decode` of the word on the input port and nothing else differs; there is no fault and no refusal. -/
def Obligations.EvaluationIsDecode : Prop :=
  ∀ s : State, step s = .next { s with observed := .result (decode s.cfg s.word) }

/-- Every well-formed instruction is the decoding of its encoding, every operand at every value. -/
def Obligations.DecodeOfEncodeIsIdentity : Prop :=
  ∀ i : Instr, i.WellFormed → decodeWord (encode i) = some i

/-- The other direction: a recognised word's instruction is well formed and encodes to that word, bit for bit, ignored
bits included. -/
def Obligations.EncodeOfDecodeIsIdentity : Prop :=
  ∀ (w : Word) (i : Instr), decodeWord w = some i → i.WellFormed ∧ encode i = w

/-- R56: at most one descriptor matches any word, except that descriptors 47 and 48 match exactly the same words; hence
"the `Op` and every field of the result are independent of the declaration order": the scan over any reordering of the
table gives the same result. -/
def Obligations.DeclarationOrderIsUnobservable : Prop :=
  (∀ w : Word,
    (∀ (i j : Nat) (d e : Descriptor), descriptorTable[i]? = some d → descriptorTable[j]? = some e →
      d.fits (selectorsOf w) = true → e.fits (selectorsOf w) = true →
      i = j ∨ (i = 47 ∧ j = 48) ∨ (i = 48 ∧ j = 47)) ∧
    (∀ d e : Descriptor, descriptorTable[47]? = some d → descriptorTable[48]? = some e →
      d.fits (selectorsOf w) = e.fits (selectorsOf w))) ∧
  ∀ (table : List Descriptor), table.Perm descriptorTable → ∀ (c : Config) (w : Word),
    (table.find? (fun d => d.fits (selectorsOf w))).map (fun d => extract c d w) = decode c w

/-- R16 with R64: from any state a step leaves an observed result that is absent or a record whose fields outside its
operation's set are at their defaults and whose immediate is in its extractor's range. -/
def Obligations.EveryStepLeavesASoundResult : Prop :=
  ∀ s t : State, step s = .next t → t.Sound

/-! ### Runs -/

/-- R211: no number of steps from any state ends in a fault or a refusal. -/
def Obligations.RunsNeverStop : Prop :=
  ∀ (n : Nat) (s : Sys2Proof.core.State), ∃ t, Sys2Proof.core.run n s = .next t

/-- R234: the results of a program are the words' own results, whatever was decoded before; the caller's run changes
nothing but the wires. -/
def Obligations.ProgramResultsAreTheWordsOwn : Prop :=
  ∀ (ws : List Word) (s : State),
    (evaluateAll ws s).1 = ws.map (fun w => .result (decode s.cfg w)) ∧ (evaluateAll ws s).2.cfg = s.cfg

/-- R234 (a), R223: any interleaving of streams through one instance gives each stream the results it would get alone,
from any state of an instance with the same configuration. `n` names a stream. -/
def Obligations.InterleavedStreamsDoNotInteract : Prop :=
  ∀ (stream : List (Nat × Word)) (n : Nat) (s s' : State), s'.cfg = s.cfg →
    (((stream.map Prod.fst).zip (evaluateAll (stream.map Prod.snd) s).1).filter (fun p => p.1 == n)).map Prod.snd =
      (evaluateAll ((stream.filter (fun p => p.1 == n)).map Prod.snd) s').1

/-- R235, R33: a word presented again gives the same result, whatever was decoded in between, and two instances of one
configuration give the same result; a step from a stepped state changes nothing. -/
def Obligations.SameWordSameResult : Prop :=
  (∀ (w : Word) (ws : List Word) (s : State),
    (evaluateAll (w :: ws ++ [w]) s).1.head? = (evaluateAll (w :: ws ++ [w]) s).1.getLast?) ∧
  (∀ s s' t t' : State, s.word = s'.word → s.cfg = s'.cfg → step s = .next t → step s' = .next t' → t = t') ∧
  (∀ s t : State, step s = .next t → step t = .next t)

/-! ### The match -/

/-- R210, R55: absent if and only if no descriptor of the table satisfies its match predicate; on the ports, `valid` is
then 0, and 1 otherwise. -/
def Obligations.AbsentExactlyWhenNoDescriptorMatches : Prop :=
  ∀ s t : State, step s = .next t →
    (t.observed = .result none ↔ ∀ d ∈ descriptorTable, d.fits (selectorsOf s.word) = false) ∧
    (s.ports.valid = false ↔ t.observed = .result none) ∧ (t.ports.valid = false ↔ t.observed = .result none)

/-- R58, its table: the words whose selectors the rule lists are recognised, and no others; every recognised word ends
in 0b11 (R62). -/
def Obligations.RecognisedWordsAreTheListedOnes : Prop :=
  ∀ s t : State, step s = .next t →
    ((∃ r, t.observed = .result (some r)) ↔ recognised (selectorsOf s.word) = true) ∧
    ((∃ r, t.observed = .result (some r)) → bits s.word 1 0 = 0b11)

/-- R58, V90: of the 131072 selector triples 6933 are recognised. -/
def Obligations.RecognisedTriplesAreCounted : Prop :=
  (Finset.univ.filter (fun x : Fin 128 × Fin 8 × Fin 128 =>
    (scan { opcode := BitVec.ofFin x.1, funct3 := BitVec.ofFin x.2.1, funct7 := BitVec.ofFin x.2.2 }).isSome = true)).card
      = 6933

/-- R51: each format's match predicate is the mask the rule's table gives it, applied to the word. -/
def Obligations.MatchPredicatesAreMasks : Prop :=
  ∀ (d : Descriptor) (w : Word),
    let whole : Nat := d.funct7.toNat * 2 ^ 25 + d.funct3.toNat * 2 ^ 12 + d.opcode.toNat
    let mask : Nat :=
      match d.format with
      | .r => 0xfe00707f
      | .i | .s | .special | .sb => 0x0000707f
      | .u | .uj => 0x0000007f
    d.fits (selectorsOf w) = true ↔ w.toNat &&& mask = whole &&& mask

/-- R53: `lookup(word)` is the descriptor of least index that matches, or none if none does. -/
def Obligations.LookupIsTheFirstMatch : Prop :=
  (∀ (w : Word) (d : Descriptor), lookup w = some d ↔
    ∃ i : Nat, descriptorTable[i]? = some d ∧ d.fits (selectorsOf w) = true ∧
      ∀ j : Nat, j < i → ∀ e, descriptorTable[j]? = some e → e.fits (selectorsOf w) = false) ∧
  (∀ w : Word, lookup w = none ↔ ∀ e ∈ descriptorTable, e.fits (selectorsOf w) = false)

/-- R57: re-deriving the selectors from the operation of a result gives the word's own, as far as its format compares
them, `word[31:20]` is zero for ECALL and not for EBREAK, and the record is never one "with fields outside the
documented default". -/
def Obligations.ResultsClassifyTheirWords : Prop :=
  ∀ (s t : State) (r : Instruction), step s = .next t → t.observed = .result (some r) →
    (∃ d ∈ descriptorTable, d.op = r.op) ∧
    (∀ d ∈ descriptorTable, d.op = r.op →
      bits s.word 6 0 = d.opcode.toNat ∧
      (d.format ≠ .u → d.format ≠ .uj → bits s.word 14 12 = d.funct3.toNat) ∧
      (d.format = .r → bits s.word 31 25 = d.funct7.toNat)) ∧
    (r.op = .ecall → bits s.word 31 20 = 0) ∧
    (r.op = .ebreak → bits s.word 31 20 ≠ 0) ∧
    conforms s.cfg.shamtMode r = true

/-! ### The immediates -/

/-- R44: `raw - 0x1000` if bit 11 of `word[31:20]` is set, else `raw`; range and examples of the rule. -/
def Obligations.ImmediateI : Prop :=
  ∀ w : Word,
    signed12 (upper12 w) = (if bits w 31 31 = 1 then (bits w 31 20 : Int) - 0x1000 else bits w 31 20) ∧
    -2048 ≤ signed12 (upper12 w) ∧ signed12 (upper12 w) ≤ 2047 ∧
    (bits w 31 20 = 0xfff → signed12 (upper12 w) = -1) ∧ (bits w 31 20 = 0x123 → signed12 (upper12 w) = 291) ∧
    (bits w 31 20 = 0x800 → signed12 (upper12 w) = -2048) ∧ (bits w 31 20 = 0x7ff → signed12 (upper12 w) = 2047)

/-- R45: `sext_12(word[31:25] ++ word[11:7])`, the sign bit `word[31]`. -/
def Obligations.ImmediateS : Prop :=
  ∀ w : Word,
    signed12 (storeField w) = sextN 12 (bits w 31 25 * 2 ^ 5 + bits w 11 7) ∧
    -2048 ≤ signed12 (storeField w) ∧ signed12 (storeField w) ≤ 2047 ∧
    (signed12 (storeField w) < 0 ↔ bits w 31 31 = 1)

/-- R46: `raw - 0x2000` when `word[31]` is 1, else `raw`, which is twice `sext_12` of the unshifted value; even; the sign
bit is `word[31]`. -/
def Obligations.ImmediateSB : Prop :=
  ∀ w : Word,
    branchOffset (branchField w) = (if bits w 31 31 = 1 then (rawSB w : Int) - 0x2000 else rawSB w) ∧
    branchOffset (branchField w) = 2 * sextN 12 (rawSB w / 2) ∧
    -4096 ≤ branchOffset (branchField w) ∧ branchOffset (branchField w) ≤ 4094 ∧
    branchOffset (branchField w) % 2 = 0 ∧ (branchOffset (branchField w) < 0 ↔ bits w 31 31 = 1)

/-- R47: `word[31:12]`, not shifted and not sign-extended, never negative even when `word[31]` is 1. -/
def Obligations.ImmediateU : Prop :=
  ∀ w : Word,
    upperImmediate (upper20 w) = bits w 31 12 ∧
    0 ≤ upperImmediate (upper20 w) ∧ upperImmediate (upper20 w) ≤ 0xFFFFF ∧
    (bits w 31 31 = 1 → 0x80000 ≤ upperImmediate (upper20 w)) ∧
    (w = 0x12345517 → upperImmediate (upper20 w) = 0x12345)

/-- R48: assembled unsigned from its four pieces, even and never negative; where `word[31]` is 1 bit 20 is set, so that
the value is 2^21 above the offset that the same bits spell in two's complement. -/
def Obligations.ImmediateUJ : Prop :=
  ∀ w : Word,
    jumpOffset (jumpField w) = immUJ w ∧
    0 ≤ jumpOffset (jumpField w) ∧ jumpOffset (jumpField w) ≤ 0x1FFFFE ∧ jumpOffset (jumpField w) % 2 = 0 ∧
    (bits w 31 31 = 1 → 0x100000 ≤ jumpOffset (jumpField w) ∧ jumpOffset (jumpField w) = sextN 21 (immUJ w) + 2 ^ 21)

/-! ### Whole-machine rules -/

/-- R190: no descriptor identifies a reserved operation, and no word gives one: the code of every result's operation is
among 0 to 54. A reserved operation has no field set, and the renderer does not implement it. -/
def Obligations.NoWordGivesAReservedOperation : Prop :=
  (∀ d ∈ descriptorTable, d.op.reserved = false) ∧
  (∀ (s t : State) (r : Instruction), step s = .next t → t.observed = .result (some r) →
    r.op.reserved = false ∧ r.op.code.toNat ≤ 54) ∧
  (∀ (mode : ShamtMode) (r : Instruction), r.op.reserved = true → fieldSet r.op = none ∧ toText mode r = none)

/-- R191: the six words the ISA spells as counter reads are plain CSRRS with that index and rs1 x0, for every rd. -/
def Obligations.CounterReadsAreCsrrs : Prop :=
  ∀ (s : State) (rd index : Nat), rd < 32 → index ∈ [0xC00, 0xC80, 0xC01, 0xC81, 0xC02, 0xC82] →
    s.word = BitVec.ofNat 32 (index * 2 ^ 20 + 0 * 2 ^ 15 + 0b010 * 2 ^ 12 + rd * 2 ^ 7 + 0b1110011) →
    step s = .next { s with
      observed := .result (some { op := .csrrs, rd := Register.ofNumber rd, rs1 := .zero, csr := BitVec.ofNat 12 index }) }

/-- R38, R61, R62: the atomic opcode, the custom opcodes, and every word whose low two bits are not 0b11 are absent. -/
def Obligations.UnsupportedSpacesAreAbsent : Prop :=
  ∀ s : State,
    (bits s.word 6 0 ∈ [0b0101111, 0b0001011, 0b0101011, 0b1011011, 0b1111011] ∨ bits s.word 1 0 ≠ 0b11) →
    step s = .next { s with observed := .result none }

/-- R59 (a), (b): the bits a fence, ECALL or EBREAK ignores change nothing. Two words of opcode 0b0001111 that agree in
`word[27:20]`, `word[14:12]` and `word[6:0]`, and two words of opcode 0b1110011 and funct3 000 that agree in
`word[31:20]`, give the same result. -/
def Obligations.IgnoredBitsChangeNothing : Prop :=
  ∀ s s' t t' : State, s.cfg = s'.cfg → step s = .next t → step s' = .next t' →
    bits s.word 6 0 = bits s'.word 6 0 → bits s.word 14 12 = bits s'.word 14 12 →
    ((bits s.word 6 0 = 0b0001111 ∧ bits s.word 27 20 = bits s'.word 27 20) ∨
      (bits s.word 6 0 = 0b1110011 ∧ bits s.word 14 12 = 0b000 ∧ bits s.word 31 20 = bits s'.word 31 20)) →
    t.observed = t'.observed

/-- R231, rows `valid`, `op` and `fence_present`: they depend on the selectors, and `op` besides on whether `word[31:20]`
is zero; the configuration and the rest of the state have no part in them. `op` and `fence_present` are compared where
`valid` is 1: what they drive otherwise may be any value (R18, log 5). -/
def Obligations.OperationDependsOnTheSelectors : Prop :=
  ∀ s s' : State,
    bits s.word 6 0 = bits s'.word 6 0 → bits s.word 14 12 = bits s'.word 14 12 →
    bits s.word 31 25 = bits s'.word 31 25 →
    s.ports.valid = s'.ports.valid ∧
    (s.ports.valid = true → s.ports.fencePresent = s'.ports.fencePresent ∧
      ((bits s.word 31 20 = 0 ↔ bits s'.word 31 20 = 0) → s.ports.op = s'.ports.op))

/-- R82: the shift-immediates' amount stands in `rs2` as a register name (`replicate`, the default) or in `shamt`
(`wired`). "No other operation is affected by the parameter": two configurations recognise the same words, with the same
`op`, `rd` and `rs1`, and `shamt` is 0 for every other operation. -/
def Obligations.ShamtModeAffectsShiftImmediatesAlone : Prop :=
  State.reset.cfg.shamtMode = .replicate ∧
  ∀ (c c' : Config) (w : Word),
    (decode c w = none ↔ decode c' w = none) ∧
    (∀ r r', decode c w = some r → decode c' w = some r' →
      r.op = r'.op ∧ r.rd = r'.rd ∧ r.rs1 = r'.rs1 ∧
      (r.op ∉ [Op.slli, Op.srli, Op.srai] → r = r' ∧ r.shamt = 0) ∧
      (r.op ∈ [Op.slli, Op.srli, Op.srai] →
        (c.shamtMode = .replicate → r = ruleR r.op c w) ∧
        (c.shamtMode = .wired →
          r = { op := r.op, rd := reg w 11 7, rs1 := reg w 19 15, shamt := BitVec.ofNat 5 (bits w 24 20) })))

/-- R231: at every moment, before a step as after it, each output of a recognised word is what the table of the rule gives
from the present word; the values driven when `valid` is 0 carry no meaning (R18, log 5) and are left out. -/
def Obligations.OutputsFollowTheWord : Prop :=
  (∀ s : State, s.ports.valid = true ↔ ∃ d ∈ descriptorTable, d.fits (selectorsOf s.word) = true) ∧
  ∀ (s : State) (r : Instruction), s.outputs = some r →
    let w := s.word
    let rdOps : List Nat := List.range 33 ++ [44, 45, 46] ++ [49, 50, 51, 52, 53, 54]
    let rs1Ops : List Nat := List.range 33 ++ [35, 36, 37, 38, 39, 40, 41, 42, 43] ++ [49, 50, 51]
    let rs2Ops : List Nat := List.range 21 ++ [35, 36, 37, 38, 39, 40, 41, 42, 43]
    let shifts : List Nat := [10, 11, 12]
    let code := s.ports.op.toNat
    let wired := s.cfg.shamtMode = .wired
    s.ports.valid = true ∧ code = r.op.code.toNat ∧
    s.ports.rd.toNat = (if code ∈ rdOps then bits w 11 7 else 32) ∧
    s.ports.rs1.toNat = (if code ∈ rs1Ops then bits w 19 15 else 32) ∧
    s.ports.rs2.toNat = (if code ∈ rs2Ops ∧ ¬ (wired ∧ code ∈ shifts) then bits w 24 20 else 32) ∧
    s.ports.csr.toNat = (if 49 ≤ code then bits w 31 20 else 0) ∧
    s.ports.shamt.toNat = (if wired ∧ code ∈ shifts then bits w 24 20 else 0) ∧
    (s.ports.imm.toNat : Int) = (
      if code ≤ 20 then 0
      else if code ≤ 32 then sextN 12 (bits w 31 20)
      else if code ≤ 34 then 0
      else if code ≤ 37 then sextN 12 (bits w 31 25 * 2 ^ 5 + bits w 11 7)
      else if code ≤ 43 then sextN 13 (rawSB w)
      else if code ≤ 45 then (bits w 31 12 : Int)
      else if code = 46 then (immUJ w : Int)
      else if code ≤ 51 then 0
      else (bits w 19 15 : Int)) % 2 ^ 32 ∧
    (s.ports.fencePresent = true ↔ code = 33 ∨ code = 34) ∧
    s.ports.fence.toNat = (if code = 33 ∨ code = 34 then bits w 27 20 else 0)

/-- R17: the ports lose nothing: two evaluations with the same wires have the same result. Of an absent result only `valid`
is read (log 5). -/
def Obligations.PortsDetermineTheResult : Prop :=
  ∀ s s' t t' : State, step s = .next t → step s' = .next t' → t.ports = t'.ports → t.observed = t'.observed

/-- R196, R197: of the records the block gives, exactly those of the 27 operations are rendered, never as the empty
string; and no record whatever of another operation is. -/
def Obligations.RenderedOperationsAreTheListedOnes : Prop :=
  let rendered : List Op :=
    [.add, .sub, .sll, .slt, .sltu, .xor, .srl, .sra, .or, .and, .addi, .slti, .sltiu, .xori, .ori, .andi,
     .slli, .srli, .srai, .beq, .bne, .blt, .bge, .bltu, .bgeu, .auipc, .jal]
  (∀ (mode : ShamtMode) (r : Instruction), r.op ∉ rendered → toText mode r = none) ∧
  (∀ (s t : State) (r : Instruction), step s = .next t → t.observed = .result (some r) → r.op ∈ rendered →
    ∃ text, toText s.cfg.shamtMode r = some text ∧ text ≠ "")

/-! ### Outputs and observations -/

/-- R10, R17, R230, R231: the outputs hold nothing. At every moment they are the function of the present word: right after
the caller presents a word, before any step, the ports are those of `decode` of that word; two states with one word and
one configuration have the same ports, whatever was observed; and an evaluation changes no output. -/
def Obligations.OutputsFollowThePresentWord : Prop :=
  (∀ (s : State) (w : Word), (s.present w).ports = portsOf (decode s.cfg w)) ∧
  (∀ s s' : State, s.word = s'.word → s.cfg = s'.cfg → s.ports = s'.ports) ∧
  (∀ s t : State, step s = .next t → t.outputs = s.outputs ∧ t.ports = s.ports)

/-- R9: "nothing carries over to the next": presenting a word leaves no observation of another word behind, and what any
step leaves observed is what the outputs show, before it and after it. -/
def Obligations.ObservationsAreOfThePresentWord : Prop :=
  (∀ (s : State) (w : Word), (s.present w).Faithful) ∧
  (∀ s t : State, step s = .next t → t.observed = .result s.outputs ∧ t.Faithful)
end

