-- ==== Sys2Proof/Laws/Decode.lean ====
section
/-! SUPPORT. The scan of the descriptor table and the decoder over it, said once. -/

namespace Sys2Proof

/-- What the scan answers is a descriptor of the table that matches. -/
theorem scan_some {x : Selectors} {d : Descriptor} (h : scan x = some d) : d ∈ descriptorTable ∧ d.fits x = true :=
  ⟨List.mem_of_find?_eq_some h, by simpa using List.find?_some h⟩

theorem scan_none {x : Selectors} : scan x = none ↔ ∀ d ∈ descriptorTable, d.fits x = false := by
  simp [scan, List.find?_eq_none]

/-- No descriptor has a reserved operation (48_reserved_ops.md R190), so that every matched word has its instruction. -/
theorem instrOf_isSome {d : Descriptor} (h : d ∈ descriptorTable) (w : Word) : (instrOf d.op w).isSome = true := by
  have key : ∀ e ∈ descriptorTable, e.op.reserved = false := by decide
  have hd := key d h
  generalize d.op = op at hd
  cases op <;> first | rfl | exact absurd hd (by decide)

/-- A word has an instruction exactly when a descriptor matches it (30_encoding.md R55). -/
theorem decodeWord_eq_none {w : Word} : decodeWord w = none ↔ lookup w = none := by
  unfold decodeWord
  cases h : lookup w with
  | none => simp
  | some d =>
    have hi := instrOf_isSome (scan_some h).1 w
    simp only [reduceCtorEq, iff_false]
    intro h0
    simp [h0] at hi

/-- The instruction of a word is the one its descriptor's operation builds. -/
theorem decodeWord_some {w : Word} {i : Instr} (h : decodeWord w = some i) :
    ∃ d, lookup w = some d ∧ instrOf d.op w = some i := by
  unfold decodeWord at h
  cases hd : lookup w with
  | none => simp [hd] at h
  | some d => exact ⟨d, rfl, by simpa [hd] using h⟩

end Sys2Proof
end

