-- ==== Sys2Proof/Laws/Operands.lean ====
section
/-! SUPPORT. Registers and their numbers, and the range of each immediate (30_encoding.md R64). -/

namespace Sys2Proof

/-- Two fields side by side, as one number. -/
theorem toNat_beside {m n : Nat} (x : BitVec m) (y : BitVec n) : (x ++ y).toNat = x.toNat * 2 ^ n + y.toNat := by
  rw [BitVec.toNat_append, ← Nat.shiftLeft_add_eq_or_of_lt y.isLt, Nat.shiftLeft_eq]

/-- R12: a slot never gives `Invalid`. -/
@[simp] theorem named_ofSlot : ∀ n : Slot, (Register.ofSlot n).named = true := by decide

@[simp] theorem slot_ofSlot : ∀ n : Slot, (Register.ofSlot n).slot = n := by decide

theorem ofSlot_slot (r : Register) (h : r.named = true) : Register.ofSlot r.slot = r := by
  revert h; cases r <;> decide

theorem code_injective (r r' : Register) (h : r.code = r'.code) : r = r' := by
  have key : ∀ x : Register, Register.ofNumber x.code.toNat = x := by intro x; cases x <;> rfl
  rw [← key r, ← key r', h]

end Sys2Proof

namespace Sys2Proof.Machine

theorem sext_eq_toInt {n : Nat} (v : BitVec n) : sext v = v.toInt := by
  rw [BitVec.toInt_eq_msb_cond]
  unfold sext
  split <;> simp

theorem signed12_range (imm : BitVec 12) : -2048 ≤ signed12 imm ∧ signed12 imm ≤ 2047 := by
  have h1 := BitVec.le_toInt imm
  have h2 := BitVec.toInt_lt (x := imm)
  simp only [signed12, sext_eq_toInt]
  omega

/-- R7: the sign bit of an N-bit field is set exactly when the field is at least 2^(N-1). -/
theorem sext_eq {n : Nat} (v : BitVec n) :
    sext v = if 2 ^ (n - 1) ≤ v.toNat then (v.toNat : Int) - 2 ^ n else v.toNat := by
  unfold sext
  rw [BitVec.msb_eq_decide]
  simp

/-- R46: the offset is twice the unshifted value. -/
theorem branchOffset_eq (offset : BitVec 12) : branchOffset offset = 2 * sext offset := by
  unfold branchOffset
  rw [sext_eq, sext_eq, toNat_beside]
  split <;> split <;> push_cast <;> omega

theorem branchOffset_range (offset : BitVec 12) : -4096 ≤ branchOffset offset ∧ branchOffset offset ≤ 4094 := by
  have h := signed12_range offset
  rw [branchOffset_eq]
  simp only [signed12] at h
  omega

theorem upperImmediate_range (imm : BitVec 20) : 0 ≤ upperImmediate imm ∧ upperImmediate imm ≤ 1048575 := by
  have h := imm.isLt
  simp only [upperImmediate, zext]
  omega

theorem jumpOffset_eq (offset : BitVec 20) : jumpOffset offset = 2 * (offset.toNat : Int) := by
  unfold jumpOffset zext
  rw [toNat_beside]
  push_cast
  omega

theorem csrImmediate_range (imm : Slot) : 0 ≤ csrImmediate imm ∧ csrImmediate imm ≤ 31 := by
  have h := imm.isLt
  simp only [csrImmediate, zext]
  omega

/-- R17, R180: the port `fence` carries the field the flags were read from. -/
@[simp] theorem fenceBits_fenceOf : ∀ flags : BitVec 8, fenceBits (fenceOf flags) = flags := by decide +kernel

end Sys2Proof.Machine
end

