-- ==== Sys2Proof/Laws/Encoding.lean ====
section
/-! SUPPORT. The fields of a word as numbers, the words the encoder packs as numbers, and with both the fields of an
encoded word (30_encoding.md R40, R42 to R49). -/

namespace Sys2Proof

/-! ### The fields of a word, as quotients and remainders -/

theorem toNat_opcodeOf (w : Word) : (opcodeOf w).toNat = w.toNat % 128 := by
  simp [opcodeOf, BitVec.extractLsb_toNat]

theorem toNat_funct3Of (w : Word) : (funct3Of w).toNat = w.toNat / 4096 % 8 := by
  simp [funct3Of, BitVec.extractLsb_toNat, Nat.shiftRight_eq_div_pow]

theorem toNat_funct7Of (w : Word) : (funct7Of w).toNat = w.toNat / 33554432 % 128 := by
  simp [funct7Of, BitVec.extractLsb_toNat, Nat.shiftRight_eq_div_pow]

theorem toNat_rdSlot (w : Word) : (rdSlot w).toNat = w.toNat / 128 % 32 := by
  simp [rdSlot, BitVec.extractLsb_toNat, Nat.shiftRight_eq_div_pow]

theorem toNat_rs1Slot (w : Word) : (rs1Slot w).toNat = w.toNat / 32768 % 32 := by
  simp [rs1Slot, BitVec.extractLsb_toNat, Nat.shiftRight_eq_div_pow]

theorem toNat_rs2Slot (w : Word) : (rs2Slot w).toNat = w.toNat / 1048576 % 32 := by
  simp [rs2Slot, BitVec.extractLsb_toNat, Nat.shiftRight_eq_div_pow]

theorem toNat_upper12 (w : Word) : (upper12 w).toNat = w.toNat / 1048576 % 4096 := by
  simp [upper12, BitVec.extractLsb_toNat, Nat.shiftRight_eq_div_pow]

theorem toNat_upper20 (w : Word) : (upper20 w).toNat = w.toNat / 4096 % 1048576 := by
  simp [upper20, BitVec.extractLsb_toNat, Nat.shiftRight_eq_div_pow]

theorem toNat_fenceField (w : Word) : (fenceField w).toNat = w.toNat / 1048576 % 256 := by
  simp [fenceField, BitVec.extractLsb_toNat, Nat.shiftRight_eq_div_pow]

theorem toNat_fmField (w : Word) : (fmField w).toNat = w.toNat / 268435456 % 16 := by
  simp [fmField, BitVec.extractLsb_toNat, Nat.shiftRight_eq_div_pow]

theorem toNat_storeField (w : Word) :
    (storeField w).toNat = w.toNat / 33554432 % 128 * 32 + w.toNat / 128 % 32 := by
  refine (toNat_beside (m := 7) (n := 5) _ _).trans ?_
  simp [BitVec.extractLsb_toNat, Nat.shiftRight_eq_div_pow]

theorem toNat_branchField (w : Word) :
    (branchField w).toNat = w.toNat / 2147483648 % 2 * 2048 + w.toNat / 128 % 2 * 1024 + w.toNat / 33554432 % 64 * 16 +
      w.toNat / 256 % 16 := by
  refine (toNat_beside (m := 1 + 1 + 6) (n := 4) _ _).trans ?_
  rw [toNat_beside (m := 1 + 1) (n := 6), toNat_beside (m := 1) (n := 1)]
  simp only [BitVec.extractLsb_toNat, Nat.shiftRight_eq_div_pow, Nat.reducePow, Nat.reduceSub, Nat.reduceAdd]
  omega

theorem toNat_jumpField (w : Word) :
    (jumpField w).toNat = w.toNat / 2147483648 % 2 * 524288 + w.toNat / 4096 % 256 * 2048 +
      w.toNat / 1048576 % 2 * 1024 + w.toNat / 2097152 % 1024 := by
  refine (toNat_beside (m := 1 + 8 + 1) (n := 10) _ _).trans ?_
  rw [toNat_beside (m := 1 + 8) (n := 1), toNat_beside (m := 1) (n := 8)]
  simp only [BitVec.extractLsb_toNat, Nat.shiftRight_eq_div_pow, Nat.reducePow, Nat.reduceSub, Nat.reduceAdd]
  omega

/-! ### The packed words -/

theorem toNat_packR (f7 : BitVec 7) (rs2 rs1 : Slot) (f3 : BitVec 3) (rd : Slot) (op : BitVec 7) :
    (packR f7 rs2 rs1 f3 rd op).toNat =
      f7.toNat * 33554432 + rs2.toNat * 1048576 + rs1.toNat * 32768 + f3.toNat * 4096 + rd.toNat * 128 + op.toNat := by
  refine (toNat_beside (m := 7 + 5 + 5 + 3 + 5) (n := 7) _ _).trans ?_
  rw [toNat_beside (m := 7 + 5 + 5 + 3) (n := 5), toNat_beside (m := 7 + 5 + 5) (n := 3),
    toNat_beside (m := 7 + 5) (n := 5), toNat_beside (m := 7) (n := 5)]
  omega

theorem toNat_packI (imm : BitVec 12) (rs1 : Slot) (f3 : BitVec 3) (rd : Slot) (op : BitVec 7) :
    (packI imm rs1 f3 rd op).toNat =
      imm.toNat * 1048576 + rs1.toNat * 32768 + f3.toNat * 4096 + rd.toNat * 128 + op.toNat := by
  refine (toNat_beside (m := 12 + 5 + 3 + 5) (n := 7) _ _).trans ?_
  rw [toNat_beside (m := 12 + 5 + 3) (n := 5), toNat_beside (m := 12 + 5) (n := 3), toNat_beside (m := 12) (n := 5)]
  omega

theorem toNat_packS (imm : BitVec 12) (rs2 rs1 : Slot) (f3 : BitVec 3) (op : BitVec 7) :
    (packS imm rs2 rs1 f3 op).toNat =
      imm.toNat / 32 * 33554432 + rs2.toNat * 1048576 + rs1.toNat * 32768 + f3.toNat * 4096 + imm.toNat % 32 * 128 +
        op.toNat := by
  have h := imm.isLt
  refine (toNat_beside (m := 7 + 5 + 5 + 3 + 5) (n := 7) _ _).trans ?_
  rw [toNat_beside (m := 7 + 5 + 5 + 3) (n := 5), toNat_beside (m := 7 + 5 + 5) (n := 3),
    toNat_beside (m := 7 + 5) (n := 5), toNat_beside (m := 7) (n := 5)]
  simp only [BitVec.extractLsb_toNat, Nat.shiftRight_eq_div_pow, Nat.reducePow, Nat.reduceSub, Nat.reduceAdd]
  omega

theorem toNat_packSB (offset : BitVec 12) (rs2 rs1 : Slot) (f3 : BitVec 3) (op : BitVec 7) :
    (packSB offset rs2 rs1 f3 op).toNat =
      offset.toNat / 2048 * 2147483648 + offset.toNat / 16 % 64 * 33554432 + rs2.toNat * 1048576 + rs1.toNat * 32768 +
        f3.toNat * 4096 + offset.toNat % 16 * 256 + offset.toNat / 1024 % 2 * 128 + op.toNat := by
  have h := offset.isLt
  refine (toNat_beside (m := 1 + 6 + 5 + 5 + 3 + 4 + 1) (n := 7) _ _).trans ?_
  rw [toNat_beside (m := 1 + 6 + 5 + 5 + 3 + 4) (n := 1), toNat_beside (m := 1 + 6 + 5 + 5 + 3) (n := 4),
    toNat_beside (m := 1 + 6 + 5 + 5) (n := 3), toNat_beside (m := 1 + 6 + 5) (n := 5),
    toNat_beside (m := 1 + 6) (n := 5), toNat_beside (m := 1) (n := 6)]
  simp only [BitVec.extractLsb_toNat, Nat.shiftRight_eq_div_pow, Nat.reducePow, Nat.reduceSub, Nat.reduceAdd]
  omega

theorem toNat_packU (imm : BitVec 20) (rd : Slot) (op : BitVec 7) :
    (packU imm rd op).toNat = imm.toNat * 4096 + rd.toNat * 128 + op.toNat := by
  refine (toNat_beside (m := 20 + 5) (n := 7) _ _).trans ?_
  rw [toNat_beside (m := 20) (n := 5)]
  omega

theorem toNat_packUJ (offset : BitVec 20) (rd : Slot) (op : BitVec 7) :
    (packUJ offset rd op).toNat =
      offset.toNat / 524288 * 2147483648 + offset.toNat % 1024 * 2097152 + offset.toNat / 1024 % 2 * 1048576 +
        offset.toNat / 2048 % 256 * 4096 + rd.toNat * 128 + op.toNat := by
  have h := offset.isLt
  refine (toNat_beside (m := 1 + 10 + 1 + 8 + 5) (n := 7) _ _).trans ?_
  rw [toNat_beside (m := 1 + 10 + 1 + 8) (n := 5), toNat_beside (m := 1 + 10 + 1) (n := 8),
    toNat_beside (m := 1 + 10) (n := 1), toNat_beside (m := 1) (n := 10)]
  simp only [BitVec.extractLsb_toNat, Nat.shiftRight_eq_div_pow, Nat.reducePow, Nat.reduceSub, Nat.reduceAdd]
  omega

theorem toNat_packFence (fm : BitVec 4) (flags : BitVec 8) (rs1 : Slot) (f3 : BitVec 3) (rd : Slot) :
    (packFence fm flags rs1 f3 rd).toNat =
      fm.toNat * 268435456 + flags.toNat * 1048576 + rs1.toNat * 32768 + f3.toNat * 4096 + rd.toNat * 128 + 15 := by
  refine (toNat_beside (m := 4 + 8 + 5 + 3 + 5) (n := 7) _ _).trans ?_
  rw [toNat_beside (m := 4 + 8 + 5 + 3) (n := 5), toNat_beside (m := 4 + 8 + 5) (n := 3),
    toNat_beside (m := 4 + 8) (n := 5), toNat_beside (m := 4) (n := 8)]
  have h : (0b0001111 : BitVec 7).toNat = 15 := rfl
  omega

/-! ### The selectors of the packed words -/

theorem selectors_packR (f7 : BitVec 7) (rs2 rs1 : Slot) (f3 : BitVec 3) (rd : Slot) (op : BitVec 7) :
    selectorsOf (packR f7 rs2 rs1 f3 rd op) = { opcode := op, funct3 := f3, funct7 := f7 } := by
  simp only [selectorsOf, Selectors.mk.injEq]
  refine ⟨?_, ?_, ?_⟩ <;> apply BitVec.eq_of_toNat_eq
  · rw [toNat_opcodeOf, toNat_packR]; omega
  · rw [toNat_funct3Of, toNat_packR]; omega
  · rw [toNat_funct7Of, toNat_packR]; omega

theorem opcode_packI (imm : BitVec 12) (rs1 : Slot) (f3 : BitVec 3) (rd : Slot) (op : BitVec 7) :
    opcodeOf (packI imm rs1 f3 rd op) = op ∧ funct3Of (packI imm rs1 f3 rd op) = f3 := by
  constructor <;> apply BitVec.eq_of_toNat_eq
  · rw [toNat_opcodeOf, toNat_packI]; omega
  · rw [toNat_funct3Of, toNat_packI]; omega

theorem opcode_packS (imm : BitVec 12) (rs2 rs1 : Slot) (f3 : BitVec 3) (op : BitVec 7) :
    opcodeOf (packS imm rs2 rs1 f3 op) = op ∧ funct3Of (packS imm rs2 rs1 f3 op) = f3 := by
  constructor <;> apply BitVec.eq_of_toNat_eq
  · rw [toNat_opcodeOf, toNat_packS]; omega
  · rw [toNat_funct3Of, toNat_packS]; omega

theorem opcode_packSB (offset : BitVec 12) (rs2 rs1 : Slot) (f3 : BitVec 3) (op : BitVec 7) :
    opcodeOf (packSB offset rs2 rs1 f3 op) = op ∧ funct3Of (packSB offset rs2 rs1 f3 op) = f3 := by
  constructor <;> apply BitVec.eq_of_toNat_eq
  · rw [toNat_opcodeOf, toNat_packSB]; omega
  · rw [toNat_funct3Of, toNat_packSB]
    have h1 : offset.toNat % 16 < 16 := Nat.mod_lt _ (by decide)
    have h2 : offset.toNat / 1024 % 2 < 2 := Nat.mod_lt _ (by decide)
    generalize offset.toNat % 16 = a at *
    generalize offset.toNat / 1024 % 2 = b at *
    generalize offset.toNat / 16 % 64 = c
    omega

theorem opcode_packU (imm : BitVec 20) (rd : Slot) (op : BitVec 7) : opcodeOf (packU imm rd op) = op := by
  apply BitVec.eq_of_toNat_eq
  rw [toNat_opcodeOf, toNat_packU]; omega

theorem opcode_packUJ (offset : BitVec 20) (rd : Slot) (op : BitVec 7) : opcodeOf (packUJ offset rd op) = op := by
  apply BitVec.eq_of_toNat_eq
  rw [toNat_opcodeOf, toNat_packUJ]; omega

theorem opcode_packFence (fm : BitVec 4) (flags : BitVec 8) (rs1 : Slot) (f3 : BitVec 3) (rd : Slot) :
    opcodeOf (packFence fm flags rs1 f3 rd) = 0b0001111 ∧ funct3Of (packFence fm flags rs1 f3 rd) = f3 := by
  constructor <;> apply BitVec.eq_of_toNat_eq
  · rw [toNat_opcodeOf, toNat_packFence]
    show _ = 15
    omega
  · rw [toNat_funct3Of, toNat_packFence]; omega

end Sys2Proof
end

