-- ==== Sys2Proof/Laws/PerInstr.lean ====
section
/-! SUPPORT. A statement of every instruction as syntax: its encoding matches the row of the descriptor table that has its
operation (30_encoding.md R51, R52), whatever its operands. -/

namespace Sys2Proof.Laws.MatchesItsRow

open Sys2Proof

/-- The encoding of `i` satisfies the match predicate of a descriptor whose operation is the one `i` names. -/
def Statement (i : Instr) : Prop := ∃ d ∈ descriptorTable, d.op = i.op ∧ d.fits (selectorsOf (encode i)) = true

/-- A descriptor that does not compare funct7 and is not tagged U or UJ fits a word of its opcode and funct3. -/
theorem fits_of_funct3 (d : Descriptor) (w : Word) (hr : d.format ≠ .r)
    (h : opcodeOf w = d.opcode ∧ funct3Of w = d.funct3) : d.fits (selectorsOf w) = true := by
  unfold Descriptor.fits selectorsOf
  split <;> simp_all

/-- A descriptor tagged U or UJ fits a word of its opcode. -/
theorem fits_of_opcode (d : Descriptor) (w : Word) (hf : d.format = .u ∨ d.format = .uj) (h : opcodeOf w = d.opcode) :
    d.fits (selectorsOf w) = true := by
  unfold Descriptor.fits selectorsOf
  rcases hf with hf | hf <;> simp [hf, h]

/-- A descriptor tagged R fits a packed word of its three selectors. -/
theorem fits_of_packR (d : Descriptor) (rs2 rs1 rd : Slot) (hr : d.format = .r) :
    d.fits (selectorsOf (packR d.funct7 rs2 rs1 d.funct3 rd d.opcode)) = true := by
  rw [selectors_packR]
  simp [Descriptor.fits, hr]

theorem add (rd rs1 rs2 : Register) : Statement (.add rd rs1 rs2) :=
  ⟨_, List.mem_of_getElem? (i := 0) rfl, rfl, fits_of_packR _ _ _ _ rfl⟩

theorem sub (rd rs1 rs2 : Register) : Statement (.sub rd rs1 rs2) :=
  ⟨_, List.mem_of_getElem? (i := 1) rfl, rfl, fits_of_packR _ _ _ _ rfl⟩

theorem sll (rd rs1 rs2 : Register) : Statement (.sll rd rs1 rs2) :=
  ⟨_, List.mem_of_getElem? (i := 2) rfl, rfl, fits_of_packR _ _ _ _ rfl⟩

theorem slt (rd rs1 rs2 : Register) : Statement (.slt rd rs1 rs2) :=
  ⟨_, List.mem_of_getElem? (i := 3) rfl, rfl, fits_of_packR _ _ _ _ rfl⟩

theorem sltu (rd rs1 rs2 : Register) : Statement (.sltu rd rs1 rs2) :=
  ⟨_, List.mem_of_getElem? (i := 4) rfl, rfl, fits_of_packR _ _ _ _ rfl⟩

theorem xor (rd rs1 rs2 : Register) : Statement (.xor rd rs1 rs2) :=
  ⟨_, List.mem_of_getElem? (i := 5) rfl, rfl, fits_of_packR _ _ _ _ rfl⟩

theorem srl (rd rs1 rs2 : Register) : Statement (.srl rd rs1 rs2) :=
  ⟨_, List.mem_of_getElem? (i := 6) rfl, rfl, fits_of_packR _ _ _ _ rfl⟩

theorem sra (rd rs1 rs2 : Register) : Statement (.sra rd rs1 rs2) :=
  ⟨_, List.mem_of_getElem? (i := 7) rfl, rfl, fits_of_packR _ _ _ _ rfl⟩

theorem or (rd rs1 rs2 : Register) : Statement (.or rd rs1 rs2) :=
  ⟨_, List.mem_of_getElem? (i := 8) rfl, rfl, fits_of_packR _ _ _ _ rfl⟩

theorem and (rd rs1 rs2 : Register) : Statement (.and rd rs1 rs2) :=
  ⟨_, List.mem_of_getElem? (i := 9) rfl, rfl, fits_of_packR _ _ _ _ rfl⟩

theorem slli (rd rs1 : Register) (amount : Slot) : Statement (.slli rd rs1 amount) :=
  ⟨_, List.mem_of_getElem? (i := 10) rfl, rfl, fits_of_packR _ _ _ _ rfl⟩

theorem srli (rd rs1 : Register) (amount : Slot) : Statement (.srli rd rs1 amount) :=
  ⟨_, List.mem_of_getElem? (i := 11) rfl, rfl, fits_of_packR _ _ _ _ rfl⟩

theorem srai (rd rs1 : Register) (amount : Slot) : Statement (.srai rd rs1 amount) :=
  ⟨_, List.mem_of_getElem? (i := 12) rfl, rfl, fits_of_packR _ _ _ _ rfl⟩

theorem mul (rd rs1 rs2 : Register) : Statement (.mul rd rs1 rs2) :=
  ⟨_, List.mem_of_getElem? (i := 13) rfl, rfl, fits_of_packR _ _ _ _ rfl⟩

theorem mulh (rd rs1 rs2 : Register) : Statement (.mulh rd rs1 rs2) :=
  ⟨_, List.mem_of_getElem? (i := 14) rfl, rfl, fits_of_packR _ _ _ _ rfl⟩

theorem mulhsu (rd rs1 rs2 : Register) : Statement (.mulhsu rd rs1 rs2) :=
  ⟨_, List.mem_of_getElem? (i := 15) rfl, rfl, fits_of_packR _ _ _ _ rfl⟩

theorem mulhu (rd rs1 rs2 : Register) : Statement (.mulhu rd rs1 rs2) :=
  ⟨_, List.mem_of_getElem? (i := 16) rfl, rfl, fits_of_packR _ _ _ _ rfl⟩

theorem div (rd rs1 rs2 : Register) : Statement (.div rd rs1 rs2) :=
  ⟨_, List.mem_of_getElem? (i := 17) rfl, rfl, fits_of_packR _ _ _ _ rfl⟩

theorem divu (rd rs1 rs2 : Register) : Statement (.divu rd rs1 rs2) :=
  ⟨_, List.mem_of_getElem? (i := 18) rfl, rfl, fits_of_packR _ _ _ _ rfl⟩

theorem rem (rd rs1 rs2 : Register) : Statement (.rem rd rs1 rs2) :=
  ⟨_, List.mem_of_getElem? (i := 19) rfl, rfl, fits_of_packR _ _ _ _ rfl⟩

theorem remu (rd rs1 rs2 : Register) : Statement (.remu rd rs1 rs2) :=
  ⟨_, List.mem_of_getElem? (i := 20) rfl, rfl, fits_of_packR _ _ _ _ rfl⟩

theorem addi (rd rs1 : Register) (imm : BitVec 12) : Statement (.addi rd rs1 imm) :=
  ⟨_, List.mem_of_getElem? (i := 21) rfl, rfl, fits_of_funct3 _ _ (by decide) (opcode_packI _ _ _ _ _)⟩

theorem slti (rd rs1 : Register) (imm : BitVec 12) : Statement (.slti rd rs1 imm) :=
  ⟨_, List.mem_of_getElem? (i := 22) rfl, rfl, fits_of_funct3 _ _ (by decide) (opcode_packI _ _ _ _ _)⟩

theorem sltiu (rd rs1 : Register) (imm : BitVec 12) : Statement (.sltiu rd rs1 imm) :=
  ⟨_, List.mem_of_getElem? (i := 23) rfl, rfl, fits_of_funct3 _ _ (by decide) (opcode_packI _ _ _ _ _)⟩

theorem xori (rd rs1 : Register) (imm : BitVec 12) : Statement (.xori rd rs1 imm) :=
  ⟨_, List.mem_of_getElem? (i := 24) rfl, rfl, fits_of_funct3 _ _ (by decide) (opcode_packI _ _ _ _ _)⟩

theorem ori (rd rs1 : Register) (imm : BitVec 12) : Statement (.ori rd rs1 imm) :=
  ⟨_, List.mem_of_getElem? (i := 25) rfl, rfl, fits_of_funct3 _ _ (by decide) (opcode_packI _ _ _ _ _)⟩

theorem andi (rd rs1 : Register) (imm : BitVec 12) : Statement (.andi rd rs1 imm) :=
  ⟨_, List.mem_of_getElem? (i := 26) rfl, rfl, fits_of_funct3 _ _ (by decide) (opcode_packI _ _ _ _ _)⟩

theorem lb (rd rs1 : Register) (imm : BitVec 12) : Statement (.lb rd rs1 imm) :=
  ⟨_, List.mem_of_getElem? (i := 27) rfl, rfl, fits_of_funct3 _ _ (by decide) (opcode_packI _ _ _ _ _)⟩

theorem lh (rd rs1 : Register) (imm : BitVec 12) : Statement (.lh rd rs1 imm) :=
  ⟨_, List.mem_of_getElem? (i := 28) rfl, rfl, fits_of_funct3 _ _ (by decide) (opcode_packI _ _ _ _ _)⟩

theorem lw (rd rs1 : Register) (imm : BitVec 12) : Statement (.lw rd rs1 imm) :=
  ⟨_, List.mem_of_getElem? (i := 29) rfl, rfl, fits_of_funct3 _ _ (by decide) (opcode_packI _ _ _ _ _)⟩

theorem lbu (rd rs1 : Register) (imm : BitVec 12) : Statement (.lbu rd rs1 imm) :=
  ⟨_, List.mem_of_getElem? (i := 30) rfl, rfl, fits_of_funct3 _ _ (by decide) (opcode_packI _ _ _ _ _)⟩

theorem lhu (rd rs1 : Register) (imm : BitVec 12) : Statement (.lhu rd rs1 imm) :=
  ⟨_, List.mem_of_getElem? (i := 31) rfl, rfl, fits_of_funct3 _ _ (by decide) (opcode_packI _ _ _ _ _)⟩

theorem jalr (rd rs1 : Register) (imm : BitVec 12) : Statement (.jalr rd rs1 imm) :=
  ⟨_, List.mem_of_getElem? (i := 32) rfl, rfl, fits_of_funct3 _ _ (by decide) (opcode_packI _ _ _ _ _)⟩

theorem fence (fm : BitVec 4) (flags : BitVec 8) (rs1Bits rdBits : Slot) : Statement (.fence fm flags rs1Bits rdBits) :=
  ⟨_, List.mem_of_getElem? (i := 33) rfl, rfl, fits_of_funct3 _ _ (by decide) (opcode_packFence _ _ _ _ _)⟩

theorem fenceI (fm : BitVec 4) (flags : BitVec 8) (rs1Bits rdBits : Slot) : Statement (.fenceI fm flags rs1Bits rdBits) :=
  ⟨_, List.mem_of_getElem? (i := 34) rfl, rfl, fits_of_funct3 _ _ (by decide) (opcode_packFence _ _ _ _ _)⟩

theorem sb (rs1 rs2 : Register) (imm : BitVec 12) : Statement (.sb rs1 rs2 imm) :=
  ⟨_, List.mem_of_getElem? (i := 35) rfl, rfl, fits_of_funct3 _ _ (by decide) (opcode_packS _ _ _ _ _)⟩

theorem sh (rs1 rs2 : Register) (imm : BitVec 12) : Statement (.sh rs1 rs2 imm) :=
  ⟨_, List.mem_of_getElem? (i := 36) rfl, rfl, fits_of_funct3 _ _ (by decide) (opcode_packS _ _ _ _ _)⟩

theorem sw (rs1 rs2 : Register) (imm : BitVec 12) : Statement (.sw rs1 rs2 imm) :=
  ⟨_, List.mem_of_getElem? (i := 37) rfl, rfl, fits_of_funct3 _ _ (by decide) (opcode_packS _ _ _ _ _)⟩

theorem beq (rs1 rs2 : Register) (offset : BitVec 12) : Statement (.beq rs1 rs2 offset) :=
  ⟨_, List.mem_of_getElem? (i := 38) rfl, rfl, fits_of_funct3 _ _ (by decide) (opcode_packSB _ _ _ _ _)⟩

theorem bne (rs1 rs2 : Register) (offset : BitVec 12) : Statement (.bne rs1 rs2 offset) :=
  ⟨_, List.mem_of_getElem? (i := 39) rfl, rfl, fits_of_funct3 _ _ (by decide) (opcode_packSB _ _ _ _ _)⟩

theorem blt (rs1 rs2 : Register) (offset : BitVec 12) : Statement (.blt rs1 rs2 offset) :=
  ⟨_, List.mem_of_getElem? (i := 40) rfl, rfl, fits_of_funct3 _ _ (by decide) (opcode_packSB _ _ _ _ _)⟩

theorem bge (rs1 rs2 : Register) (offset : BitVec 12) : Statement (.bge rs1 rs2 offset) :=
  ⟨_, List.mem_of_getElem? (i := 41) rfl, rfl, fits_of_funct3 _ _ (by decide) (opcode_packSB _ _ _ _ _)⟩

theorem bltu (rs1 rs2 : Register) (offset : BitVec 12) : Statement (.bltu rs1 rs2 offset) :=
  ⟨_, List.mem_of_getElem? (i := 42) rfl, rfl, fits_of_funct3 _ _ (by decide) (opcode_packSB _ _ _ _ _)⟩

theorem bgeu (rs1 rs2 : Register) (offset : BitVec 12) : Statement (.bgeu rs1 rs2 offset) :=
  ⟨_, List.mem_of_getElem? (i := 43) rfl, rfl, fits_of_funct3 _ _ (by decide) (opcode_packSB _ _ _ _ _)⟩

theorem lui (rd : Register) (imm : BitVec 20) : Statement (.lui rd imm) :=
  ⟨_, List.mem_of_getElem? (i := 44) rfl, rfl, fits_of_opcode _ _ (by decide) (opcode_packU _ _ _)⟩

theorem auipc (rd : Register) (imm : BitVec 20) : Statement (.auipc rd imm) :=
  ⟨_, List.mem_of_getElem? (i := 45) rfl, rfl, fits_of_opcode _ _ (by decide) (opcode_packU _ _ _)⟩

theorem jal (rd : Register) (offset : BitVec 20) : Statement (.jal rd offset) :=
  ⟨_, List.mem_of_getElem? (i := 46) rfl, rfl, fits_of_opcode _ _ (by decide) (opcode_packUJ _ _ _)⟩

theorem ecall (rs1Bits rdBits : Slot) : Statement (.ecall rs1Bits rdBits) :=
  ⟨_, List.mem_of_getElem? (i := 47) rfl, rfl, fits_of_funct3 _ _ (by decide) (opcode_packI _ _ _ _ _)⟩

theorem ebreak (code : BitVec 12) (rs1Bits rdBits : Slot) : Statement (.ebreak code rs1Bits rdBits) :=
  ⟨_, List.mem_of_getElem? (i := 48) rfl, rfl, fits_of_funct3 _ _ (by decide) (opcode_packI _ _ _ _ _)⟩

theorem csrrw (rd rs1 : Register) (csr : BitVec 12) : Statement (.csrrw rd rs1 csr) :=
  ⟨_, List.mem_of_getElem? (i := 49) rfl, rfl, fits_of_funct3 _ _ (by decide) (opcode_packI _ _ _ _ _)⟩

theorem csrrs (rd rs1 : Register) (csr : BitVec 12) : Statement (.csrrs rd rs1 csr) :=
  ⟨_, List.mem_of_getElem? (i := 50) rfl, rfl, fits_of_funct3 _ _ (by decide) (opcode_packI _ _ _ _ _)⟩

theorem csrrc (rd rs1 : Register) (csr : BitVec 12) : Statement (.csrrc rd rs1 csr) :=
  ⟨_, List.mem_of_getElem? (i := 51) rfl, rfl, fits_of_funct3 _ _ (by decide) (opcode_packI _ _ _ _ _)⟩

theorem csrrwi (rd : Register) (imm : Slot) (csr : BitVec 12) : Statement (.csrrwi rd imm csr) :=
  ⟨_, List.mem_of_getElem? (i := 52) rfl, rfl, fits_of_funct3 _ _ (by decide) (opcode_packI _ _ _ _ _)⟩

theorem csrrsi (rd : Register) (imm : Slot) (csr : BitVec 12) : Statement (.csrrsi rd imm csr) :=
  ⟨_, List.mem_of_getElem? (i := 53) rfl, rfl, fits_of_funct3 _ _ (by decide) (opcode_packI _ _ _ _ _)⟩

theorem csrrci (rd : Register) (imm : Slot) (csr : BitVec 12) : Statement (.csrrci rd imm csr) :=
  ⟨_, List.mem_of_getElem? (i := 54) rfl, rfl, fits_of_funct3 _ _ (by decide) (opcode_packI _ _ _ _ _)⟩

end Sys2Proof.Laws.MatchesItsRow
end

