-- ==== Sys2Proof/Laws/State.lean ====
section
/-! SUPPORT. The updates of State, one lemma per field per update, and what each shared operation can answer. -/

namespace Sys2Proof.Machine

@[simp] theorem present_cfg (s : State) (w : Word) : (s.present w).cfg = s.cfg := rfl
@[simp] theorem present_word (s : State) (w : Word) : (s.present w).word = w := rfl
@[simp] theorem present_observed (s : State) (w : Word) : (s.present w).observed = .pending := rfl

@[simp] theorem observe_cfg (s : State) (r : Option Instruction) : (s.observe r).cfg = s.cfg := rfl
@[simp] theorem observe_word (s : State) (r : Option Instruction) : (s.observe r).word = s.word := rfl
@[simp] theorem observe_observed (s : State) (r : Option Instruction) : (s.observe r).observed = .result r := rfl

@[simp] theorem withFetchWord_cfg (s : State) (nbits w : Nat) : (s.withFetchWord nbits w).cfg = s.cfg := rfl
@[simp] theorem withFetchWord_word (s : State) (nbits w : Nat) : (s.withFetchWord nbits w).word = tableWord nbits w := rfl
@[simp] theorem withFetchWord_observed (s : State) (nbits w : Nat) : (s.withFetchWord nbits w).observed = .pending := rfl

/-! The outputs see the present word and the configuration, and nothing else (70_reset_and_hazards.md R231). -/

@[simp] theorem present_outputs (s : State) (w : Word) : (s.present w).outputs = decode s.cfg w := rfl
@[simp] theorem present_ports (s : State) (w : Word) : (s.present w).ports = portsOf (decode s.cfg w) := rfl
@[simp] theorem observe_outputs (s : State) (r : Option Instruction) : (s.observe r).outputs = s.outputs := rfl
@[simp] theorem observe_ports (s : State) (r : Option Instruction) : (s.observe r).ports = s.ports := rfl

/-- Everything `deliver` can do: it answers a next state in which the record is observed and differs in nothing else. -/
theorem deliver_eq_next_iff (r : Instruction) (s t : State) :
    deliver r s = .next t ↔ t = s.observe (some r) := by
  simp [deliver, eq_comm]

/-- Everything `deliverAbsent` can do. -/
theorem deliverAbsent_eq_next_iff (s t : State) : deliverAbsent s = .next t ↔ t = s.observe none := by
  simp [deliverAbsent, eq_comm]

end Sys2Proof.Machine
end

