-- ==== Sys2Proof/Tests/Slice0.lean ====
section
/-! SUPPORT. The model's own tests. The expected values are the spec's: the encodings of the instruction rules, the
records of 95_test_vectors.md and of the rules' examples, the port table and the renderer's examples. At the end, a
witness for the hypotheses of every statement that has some. -/

namespace Sys2Proof.Tests

open Sys2Proof.Machine Sys2Proof.Claim

/-- A state with this mode and this word on its input port. -/
def ready (mode : ShamtMode) (w : Word) : State := { cfg := { shamtMode := mode }, word := w, observed := .pending }

/-- The result observed after a step; absent is `none`, and a stop would be `none` as well (the frame tests exclude it). -/
def resultOf (mode : ShamtMode) (w : Word) : Option Instruction :=
  match step (ready mode w) with
  | .next { observed := .result r, .. } => r
  | _ => none

/-! ### Decoding: words written out, field by field, from the encodings of the rules -/

/-- R83 to R92. -/
theorem test_decode_register_arithmetic :
    decodeWord 0b0000000_01100_01011_000_01010_0110011 = some (.add .a0 .a1 .a2) ∧
    decodeWord 0b0100000_00111_00110_000_00101_0110011 = some (.sub .t0 .t1 .t2) ∧
    decodeWord 0b0000000_10010_01001_001_01000_0110011 = some (.sll .s0 .s1 .s2) ∧
    decodeWord 0b0000000_11110_11101_010_11100_0110011 = some (.slt .t3 .t4 .t5) ∧
    decodeWord 0b0000000_01101_01100_011_01010_0110011 = some (.sltu .a0 .a2 .a3) ∧
    decodeWord 0b0000000_10101_10100_100_10011_0110011 = some (.xor .s3 .s4 .s5) ∧
    decodeWord 0b0000000_11000_10111_101_10110_0110011 = some (.srl .s6 .s7 .s8) ∧
    decodeWord 0b0100000_11011_11010_101_11001_0110011 = some (.sra .s9 .s10 .s11) ∧
    decodeWord 0b0000000_11111_11110_110_11101_0110011 = some (.or .t4 .t5 .t6) ∧
    decodeWord 0b0000000_11001_11010_111_11011_0110011 = some (.and .s11 .s10 .s9) := by decide

/-- R83 to R92. -/
theorem test_encode_register_arithmetic :
    encode (.add .a0 .a1 .a2) = 0b0000000_01100_01011_000_01010_0110011 ∧
    encode (.sub .t0 .t1 .t2) = 0b0100000_00111_00110_000_00101_0110011 ∧
    encode (.sll .s0 .s1 .s2) = 0b0000000_10010_01001_001_01000_0110011 ∧
    encode (.slt .t3 .t4 .t5) = 0b0000000_11110_11101_010_11100_0110011 ∧
    encode (.sltu .a0 .a2 .a3) = 0b0000000_01101_01100_011_01010_0110011 ∧
    encode (.xor .s3 .s4 .s5) = 0b0000000_10101_10100_100_10011_0110011 ∧
    encode (.srl .s6 .s7 .s8) = 0b0000000_11000_10111_101_10110_0110011 ∧
    encode (.sra .s9 .s10 .s11) = 0b0100000_11011_11010_101_11001_0110011 ∧
    encode (.or .t4 .t5 .t6) = 0b0000000_11111_11110_110_11101_0110011 ∧
    encode (.and .s11 .s10 .s9) = 0b0000000_11001_11010_111_11011_0110011 := by decide

/-- R93 to R95. -/
theorem test_decode_shift_immediate :
    decodeWord 0b0000000_00011_01011_001_01010_0010011 = some (.slli .a0 .a1 3) ∧
    decodeWord 0b0000000_11111_01011_101_01010_0010011 = some (.srli .a0 .a1 31) ∧
    decodeWord 0b0100000_11111_01101_101_01101_0010011 = some (.srai .a3 .a3 31) := by decide

/-- R93 to R95. -/
theorem test_encode_shift_immediate :
    encode (.slli .a0 .a1 3) = 0b0000000_00011_01011_001_01010_0010011 ∧
    encode (.srli .a0 .a1 31) = 0b0000000_11111_01011_101_01010_0010011 ∧
    encode (.srai .a3 .a3 31) = 0b0100000_11111_01101_101_01101_0010011 := by decide

/-- R96 to R103. -/
theorem test_decode_multiply_divide :
    decodeWord 0b0000001_01011_01010_000_01100_0110011 = some (.mul .a2 .a0 .a1) ∧
    decodeWord 0b0000001_01011_01010_001_01101_0110011 = some (.mulh .a3 .a0 .a1) ∧
    decodeWord 0b0000001_11110_11101_010_11100_0110011 = some (.mulhsu .t3 .t4 .t5) ∧
    decodeWord 0b0000001_11110_11101_011_11100_0110011 = some (.mulhu .t3 .t4 .t5) ∧
    decodeWord 0b0000001_01011_01010_100_01110_0110011 = some (.div .a4 .a0 .a1) ∧
    decodeWord 0b0000001_10100_10011_101_10010_0110011 = some (.divu .s2 .s3 .s4) ∧
    decodeWord 0b0000001_01101_01110_110_01111_0110011 = some (.rem .a5 .a4 .a3) ∧
    decodeWord 0b0000001_11111_11111_111_11111_0110011 = some (.remu .t6 .t6 .t6) := by decide

/-- R96 to R103. -/
theorem test_encode_multiply_divide :
    encode (.mul .a2 .a0 .a1) = 0b0000001_01011_01010_000_01100_0110011 ∧
    encode (.mulh .a3 .a0 .a1) = 0b0000001_01011_01010_001_01101_0110011 ∧
    encode (.mulhsu .t3 .t4 .t5) = 0b0000001_11110_11101_010_11100_0110011 ∧
    encode (.mulhu .t3 .t4 .t5) = 0b0000001_11110_11101_011_11100_0110011 ∧
    encode (.div .a4 .a0 .a1) = 0b0000001_01011_01010_100_01110_0110011 ∧
    encode (.divu .s2 .s3 .s4) = 0b0000001_10100_10011_101_10010_0110011 ∧
    encode (.rem .a5 .a4 .a3) = 0b0000001_01101_01110_110_01111_0110011 ∧
    encode (.remu .t6 .t6 .t6) = 0b0000001_11111_11111_111_11111_0110011 := by decide

/-- R111 to R116. -/
theorem test_decode_immediate_arithmetic :
    decodeWord 0b111111111111_01011_000_01010_0010011 = some (.addi .a0 .a1 0xfff) ∧
    decodeWord 0b111111111111_00110_010_00101_0010011 = some (.slti .t0 .t1 0xfff) ∧
    decodeWord 0b111111111111_01011_011_01010_0010011 = some (.sltiu .a0 .a1 0xfff) ∧
    decodeWord 0b111111111111_01000_100_00111_0010011 = some (.xori .t2 .s0 0xfff) ∧
    decodeWord 0b011111111111_11101_110_11100_0010011 = some (.ori .t3 .t4 0x7ff) ∧
    decodeWord 0b111111111111_00011_111_01001_0010011 = some (.andi .s1 .gp 0xfff) := by decide

/-- R111 to R116. -/
theorem test_encode_immediate_arithmetic :
    encode (.addi .a0 .a1 0xfff) = 0b111111111111_01011_000_01010_0010011 ∧
    encode (.slti .t0 .t1 0xfff) = 0b111111111111_00110_010_00101_0010011 ∧
    encode (.sltiu .a0 .a1 0xfff) = 0b111111111111_01011_011_01010_0010011 ∧
    encode (.xori .t2 .s0 0xfff) = 0b111111111111_01000_100_00111_0010011 ∧
    encode (.ori .t3 .t4 0x7ff) = 0b011111111111_11101_110_11100_0010011 ∧
    encode (.andi .s1 .gp 0xfff) = 0b111111111111_00011_111_01001_0010011 := by decide

/-- R117 to R121. -/
theorem test_decode_load :
    decodeWord 0b111111111111_00010_000_01010_0000011 = some (.lb .a0 .sp 0xfff) ∧
    decodeWord 0b111111111110_01010_001_01110_0000011 = some (.lh .a4 .a0 0xffe) ∧
    decodeWord 0b000000100000_01011_010_01100_0000011 = some (.lw .a2 .a1 0x20) ∧
    decodeWord 0b011111111111_01101_100_01100_0000011 = some (.lbu .a2 .a3 0x7ff) ∧
    decodeWord 0b111111111110_01111_101_01110_0000011 = some (.lhu .a4 .a5 0xffe) := by decide

/-- R117 to R121. -/
theorem test_encode_load :
    encode (.lb .a0 .sp 0xfff) = 0b111111111111_00010_000_01010_0000011 ∧
    encode (.lh .a4 .a0 0xffe) = 0b111111111110_01010_001_01110_0000011 ∧
    encode (.lw .a2 .a1 0x20) = 0b000000100000_01011_010_01100_0000011 ∧
    encode (.lbu .a2 .a3 0x7ff) = 0b011111111111_01101_100_01100_0000011 ∧
    encode (.lhu .a4 .a5 0xffe) = 0b111111111110_01111_101_01110_0000011 := by decide

/-- R122, R156. -/
theorem test_decode_jump :
    decodeWord 0b111111111100_01010_000_00001_1100111 = some (.jalr .ra .a0 0xffc) ∧
    decodeWord 0b1_1111111111_1_11111111_11111_1101111 = some (.jal .t6 0xfffff) := by decide

/-- R122, R156. -/
theorem test_encode_jump :
    encode (.jalr .ra .a0 0xffc) = 0b111111111100_01010_000_00001_1100111 ∧
    encode (.jal .t6 0xfffff) = 0b1_1111111111_1_11111111_11111_1101111 := by decide

/-- R181, R182. -/
theorem test_decode_fence :
    decodeWord 0b1000_00110011_00000_000_00000_0001111 = some (.fence 0b1000 0b00110011 0b00000 0b00000) ∧
    decodeWord 0b1111_11111111_11111_001_11111_0001111 = some (.fenceI 0b1111 0b11111111 0b11111 0b11111) := by decide

/-- R181, R182. -/
theorem test_encode_fence :
    encode (.fence 0b1000 0b00110011 0b00000 0b00000) = 0b1000_00110011_00000_000_00000_0001111 ∧
    encode (.fenceI 0b1111 0b11111111 0b11111 0b11111) = 0b1111_11111111_11111_001_11111_0001111 := by decide

/-- R131 to R133. -/
theorem test_decode_store :
    decodeWord 0b1111111_01101_01010_000_11111_0100011 = some (.sb .a0 .a3 0xfff) ∧
    decodeWord 0b1000000_01110_00010_001_00000_0100011 = some (.sh .sp .a4 0x800) ∧
    decodeWord 0b1111111_01010_00010_010_11100_0100011 = some (.sw .sp .a0 0xffc) := by decide

/-- R131 to R133. -/
theorem test_encode_store :
    encode (.sb .a0 .a3 0xfff) = 0b1111111_01101_01010_000_11111_0100011 ∧
    encode (.sh .sp .a4 0x800) = 0b1000000_01110_00010_001_00000_0100011 ∧
    encode (.sw .sp .a0 0xffc) = 0b1111111_01010_00010_010_11100_0100011 := by decide

/-- R142 to R147. -/
theorem test_decode_branch :
    decodeWord 0b0_000000_01011_01010_000_0110_0_1100011 = some (.beq .a0 .a1 0x6) ∧
    decodeWord 0b1_111111_00000_01010_001_1110_1_1100011 = some (.bne .a0 .zero 0xffe) ∧
    decodeWord 0b0_111111_00110_00101_100_1111_1_1100011 = some (.blt .t0 .t1 0x7ff) ∧
    decodeWord 0b1_111111_11100_00111_101_1000_1_1100011 = some (.bge .t2 .t3 0xff8) ∧
    decodeWord 0b0_000000_11101_11100_110_0000_1_1100011 = some (.bltu .t3 .t4 0x400) ∧
    decodeWord 0b1_111111_01101_01100_111_1111_1_1100011 = some (.bgeu .a2 .a3 0xfff) := by decide

/-- R142 to R147. -/
theorem test_encode_branch :
    encode (.beq .a0 .a1 0x6) = 0b0_000000_01011_01010_000_0110_0_1100011 ∧
    encode (.bne .a0 .zero 0xffe) = 0b1_111111_00000_01010_001_1110_1_1100011 ∧
    encode (.blt .t0 .t1 0x7ff) = 0b0_111111_00110_00101_100_1111_1_1100011 ∧
    encode (.bge .t2 .t3 0xff8) = 0b1_111111_11100_00111_101_1000_1_1100011 ∧
    encode (.bltu .t3 .t4 0x400) = 0b0_000000_11101_11100_110_0000_1_1100011 ∧
    encode (.bgeu .a2 .a3 0xfff) = 0b1_111111_01101_01100_111_1111_1_1100011 := by decide

/-- R151, R152. -/
theorem test_decode_upper_immediate :
    decodeWord 0b11111111111111111111_00101_0110111 = some (.lui .t0 0xfffff) ∧
    decodeWord 0b11111111111111111111_11111_0010111 = some (.auipc .t6 0xfffff) := by decide

/-- R151, R152. -/
theorem test_encode_upper_immediate :
    encode (.lui .t0 0xfffff) = 0b11111111111111111111_00101_0110111 ∧
    encode (.auipc .t6 0xfffff) = 0b11111111111111111111_11111_0010111 := by decide

/-- R162, R163. -/
theorem test_decode_environment :
    decodeWord 0b000000000000_11111_000_11111_1110011 = some (.ecall 0b11111 0b11111) ∧
    decodeWord 0b111111111111_11111_000_11111_1110011 = some (.ebreak 0xfff 0b11111 0b11111) := by decide

/-- R162, R163. -/
theorem test_encode_environment :
    encode (.ecall 0b11111 0b11111) = 0b000000000000_11111_000_11111_1110011 ∧
    encode (.ebreak 0xfff 0b11111 0b11111) = 0b111111111111_11111_000_11111_1110011 := by decide

/-- R166 to R171. -/
theorem test_decode_csr :
    decodeWord 0b001100000000_01011_001_01010_1110011 = some (.csrrw .a0 .a1 0x300) ∧
    decodeWord 0b111111111111_00110_010_00101_1110011 = some (.csrrs .t0 .t1 0xfff) ∧
    decodeWord 0b000000000001_01000_011_00111_1110011 = some (.csrrc .t2 .s0 0x001) ∧
    decodeWord 0b001101000000_11111_101_01010_1110011 = some (.csrrwi .a0 31 0x340) ∧
    decodeWord 0b001100000000_01000_110_00000_1110011 = some (.csrrsi .zero 8 0x300) ∧
    decodeWord 0b111111111111_11111_111_11111_1110011 = some (.csrrci .t6 31 0xfff) := by decide

/-- R166 to R171. -/
theorem test_encode_csr :
    encode (.csrrw .a0 .a1 0x300) = 0b001100000000_01011_001_01010_1110011 ∧
    encode (.csrrs .t0 .t1 0xfff) = 0b111111111111_00110_010_00101_1110011 ∧
    encode (.csrrc .t2 .s0 0x001) = 0b000000000001_01000_011_00111_1110011 ∧
    encode (.csrrwi .a0 31 0x340) = 0b001101000000_11111_101_01010_1110011 ∧
    encode (.csrrsi .zero 8 0x300) = 0b001100000000_01000_110_00000_1110011 ∧
    encode (.csrrci .t6 31 0xfff) = 0b111111111111_11111_111_11111_1110011 := by decide

/-! ### Records: the spec's own vectors (95_test_vectors.md, by their ids) and the rules' examples -/

/-- Vectors, or examples of the rules: R83, R84, V102, R86, V104, V105, V106, R90, V108, R92. -/
theorem test_record_register_arithmetic :
    resultOf .replicate 0x00b50533 =
      some { op := .add, rd := .a0, rs1 := .a0, rs2 := .a1 } ∧
    resultOf .replicate 0x40a00533 =
      some { op := .sub, rd := .a0, rs1 := .zero, rs2 := .a0 } ∧
    resultOf .replicate 0x003110b3 =
      some { op := .sll, rd := .ra, rs1 := .sp, rs2 := .gp } ∧
    resultOf .replicate 0x00f726b3 =
      some { op := .slt, rd := .a3, rs1 := .a4, rs2 := .a5 } ∧
    resultOf .replicate 0x01ffbfb3 =
      some { op := .sltu, rd := .t6, rs1 := .t6, rs2 := .t6 } ∧
    resultOf .replicate 0x00004033 =
      some { op := .xor, rd := .zero, rs1 := .zero, rs2 := .zero } ∧
    resultOf .replicate 0x00c5d533 =
      some { op := .srl, rd := .a0, rs1 := .a1, rs2 := .a2 } ∧
    resultOf .replicate 0x40f75733 =
      some { op := .sra, rd := .a4, rs1 := .a4, rs2 := .a5 } ∧
    resultOf .replicate 0x0124e433 =
      some { op := .or, rd := .s0, rs1 := .s1, rs2 := .s2 } ∧
    resultOf .replicate 0x003170b3 =
      some { op := .and, rd := .ra, rs1 := .sp, rs2 := .gp } := by decide

/-- Vectors, or examples of the rules: V120, V122, V128, in both modes. -/
theorem test_record_shift_immediate :
    resultOf .replicate 0x00359513 =
      some { op := .slli, rd := .a0, rs1 := .a1, rs2 := .gp } ∧
    resultOf .wired 0x00359513 =
      some { op := .slli, rd := .a0, rs1 := .a1, shamt := 3 } ∧
    resultOf .replicate 0x01f5d513 =
      some { op := .srli, rd := .a0, rs1 := .a1, rs2 := .t6 } ∧
    resultOf .wired 0x01f5d513 =
      some { op := .srli, rd := .a0, rs1 := .a1, shamt := 31 } ∧
    resultOf .replicate 0x41f55513 =
      some { op := .srai, rd := .a0, rs1 := .a0, rs2 := .t6 } ∧
    resultOf .wired 0x41f55513 =
      some { op := .srai, rd := .a0, rs1 := .a0, shamt := 31 } := by decide

/-- Vectors, or examples of the rules: V140, R97, V142, R99, V144, V145, R102, V147. -/
theorem test_record_multiply_divide :
    resultOf .replicate 0x02c58533 =
      some { op := .mul, rd := .a0, rs1 := .a1, rs2 := .a2 } ∧
    resultOf .replicate 0x027312b3 =
      some { op := .mulh, rd := .t0, rs1 := .t1, rs2 := .t2 } ∧
    resultOf .replicate 0x027322b3 =
      some { op := .mulhsu, rd := .t0, rs1 := .t1, rs2 := .t2 } ∧
    resultOf .replicate 0x031837b3 =
      some { op := .mulhu, rd := .a5, rs1 := .a6, rs2 := .a7 } ∧
    resultOf .replicate 0x0205c533 =
      some { op := .div, rd := .a0, rs1 := .a1, rs2 := .zero } ∧
    resultOf .replicate 0x02a55533 =
      some { op := .divu, rd := .a0, rs1 := .a0, rs2 := .a0 } ∧
    resultOf .replicate 0x037b6ab3 =
      some { op := .rem, rd := .s5, rs1 := .s6, rs2 := .s7 } ∧
    resultOf .replicate 0x03fff033 =
      some { op := .remu, rd := .zero, rs1 := .t6, rs2 := .t6 } := by decide

/-- Vectors, or examples of the rules: V208, R112, V202, V203, V204, R116. -/
theorem test_record_immediate_arithmetic :
    resultOf .replicate 0x80058513 =
      some { op := .addi, rd := .a0, rs1 := .a1, immediate := -2048 } ∧
    resultOf .replicate 0x80032293 =
      some { op := .slti, rd := .t0, rs1 := .t1, immediate := -2048 } ∧
    resultOf .replicate 0x001e3393 =
      some { op := .sltiu, rd := .t2, rs1 := .t3, immediate := 1 } ∧
    resultOf .replicate 0xfff54513 =
      some { op := .xori, rd := .a0, rs1 := .a0, immediate := -1 } ∧
    resultOf .replicate 0x5554e413 =
      some { op := .ori, rd := .s0, rs1 := .s1, immediate := 1365 } ∧
    resultOf .replicate 0x0ff7f793 =
      some { op := .andi, rd := .a5, rs1 := .a5, immediate := 255 } := by decide

/-- Vectors, or examples of the rules: V220, V221, R119, R120, V224. -/
theorem test_record_load :
    resultOf .replicate 0x00058503 =
      some { op := .lb, rd := .a0, rs1 := .a1 } ∧
    resultOf .replicate 0xffe11283 =
      some { op := .lh, rd := .t0, rs1 := .sp, immediate := -2 } ∧
    resultOf .replicate 0x80052503 =
      some { op := .lw, rd := .a0, rs1 := .a0, immediate := -2048 } ∧
    resultOf .replicate 0x00354683 =
      some { op := .lbu, rd := .a3, rs1 := .a0, immediate := 3 } ∧
    resultOf .replicate 0x8007d703 =
      some { op := .lhu, rd := .a4, rs1 := .a5, immediate := -2048 } := by decide

/-- Vectors, or examples of the rules: V232, V186. -/
theorem test_record_jump :
    resultOf .replicate 0x7ff080e7 =
      some { op := .jalr, rd := .ra, rs1 := .ra, immediate := 2047 } ∧
    resultOf .replicate 0xffdff06f =
      some { op := .jal, rd := .zero, immediate := 2097148 } := by decide

/-- Vectors, or examples of the rules: R181, R182. -/
theorem test_record_fence :
    resultOf .replicate 0x081f8f8f =
      some
        { op := .fence
          fence := some
            { pi := true, po := false, pr := false, pw := false, si := false, so := false, sr := false, sw := true } } ∧
    resultOf .replicate 0xfff0100f =
      some
        { op := .fenceI
          fence := some
            { pi := true, po := true, pr := true, pw := true, si := true, so := true, sr := true, sw := true } } := by decide

/-- Vectors, or examples of the rules: V247, R132, R133. -/
theorem test_record_store :
    resultOf .replicate 0x02000023 =
      some { op := .sb, rs1 := .zero, rs2 := .zero, immediate := 32 } ∧
    resultOf .replicate 0x7e941f23 =
      some { op := .sh, rs1 := .s0, rs2 := .s1, immediate := 2046 } ∧
    resultOf .replicate 0x80b52023 =
      some { op := .sw, rs1 := .a0, rs2 := .a1, immediate := -2048 } := by decide

/-- Vectors, or examples of the rules: V258, V264, V252, R145, V254, R147. -/
theorem test_record_branch :
    resultOf .replicate 0x80000063 =
      some { op := .beq, rs1 := .zero, rs2 := .zero, immediate := -4096 } ∧
    resultOf .replicate 0x80a51163 =
      some { op := .bne, rs1 := .a0, rs2 := .a0, immediate := -4094 } ∧
    resultOf .replicate 0x0062c863 =
      some { op := .blt, rs1 := .t0, rs2 := .t1, immediate := 16 } ∧
    resultOf .replicate 0x8083d063 =
      some { op := .bge, rs1 := .t2, rs2 := .s0, immediate := -4096 } ∧
    resultOf .replicate 0x00b56163 =
      some { op := .bltu, rs1 := .a0, rs2 := .a1, immediate := 2 } ∧
    resultOf .replicate 0x81ff70e3 =
      some { op := .bgeu, rs1 := .t5, rs2 := .t6, immediate := -2048 } := by decide

/-- Vectors, or examples of the rules: V182, R152. -/
theorem test_record_upper_immediate :
    resultOf .replicate 0x80000037 =
      some { op := .lui, rd := .zero, immediate := 524288 } ∧
    resultOf .replicate 0x80000097 =
      some { op := .auipc, rd := .ra, immediate := 524288 } := by decide

/-- Vectors, or examples of the rules: V190, V194. -/
theorem test_record_environment :
    resultOf .replicate 0x00000073 =
      some { op := .ecall } ∧
    resultOf .replicate 0xfff00073 =
      some { op := .ebreak } := by decide

/-- Vectors, or examples of the rules: V277, V278, V273, R169, V275, R171. -/
theorem test_record_csr :
    resultOf .replicate 0xfff01073 =
      some { op := .csrrw, rd := .zero, rs1 := .zero, csr := 0xfff } ∧
    resultOf .replicate 0x800faff3 =
      some { op := .csrrs, rd := .t6, rs1 := .t6, csr := 0x800 } ∧
    resultOf .replicate 0x3042b073 =
      some { op := .csrrc, rd := .zero, rs1 := .t0, csr := 0x304 } ∧
    resultOf .replicate 0x300fd573 =
      some { op := .csrrwi, rd := .a0, csr := 0x300, immediate := 31 } ∧
    resultOf .replicate 0x00106073 =
      some { op := .csrrsi, rd := .zero, csr := 0x001 } ∧
    resultOf .replicate 0x7c0872f3 =
      some { op := .csrrci, rd := .t0, csr := 0x7c0, immediate := 16 } := by decide

/-! ### Corner cases of the rules -/

/-- V111 to V114, V130, V131: funct7 is compared whole. -/
theorem test_absent_funct7 :
    [0x40001033, 0x20000033, 0x80000033, 0xfe000033, 0x02051513, 0x40051513].all
      (fun w => resultOf .replicate w == none && resultOf .wired w == none) = true := by decide

/-- V226 to V228, V233, V160, V249, V266, V267, V196: the funct3 gaps. -/
theorem test_absent_funct3 :
    [0x00813503, 0x00816503, 0x00817503, 0x000510e7, 0x0000200f, 0x00a13423, 0x00b52663, 0x00b53663, 0x00004073].all
      (fun w => resultOf .replicate w == none) = true := by decide

/-- V300 to V310: no opcode of the table. -/
theorem test_absent_opcode :
    [0x00000000, 0xffffffff, 0x00010001, 0x00008082, 0x0000000b, 0x0000002b, 0x1005202f, 0x00052007, 0x00b5053b,
     0x0005051b, 0x00c58532].all (fun w => resultOf .replicate w == none) = true := by decide

/-- V60 to V64, V193 to V195: every nonzero `word[31:20]` is EBREAK, operands at their defaults. -/
theorem test_privileged_words_are_ebreak :
    [0x00200073, 0x10200073, 0x30200073, 0x10500073, 0x12000073, 0x12b50073, 0x80000073, 0xfff00073, 0xffff8ff3].all
      (fun w => resultOf .replicate w == some { op := .ebreak }) = true := by decide

/-- V257 to V263: the places of the branch offset's bits, one at a time. -/
theorem test_branch_offset_bits :
    [0x7e000fe3, 0x80000063, 0x000000e3, 0xfe000fe3, 0x00000163, 0x02000063, 0x40000063].map
      (fun w => branchOffset (branchField w)) = [4094, -4096, 2048, -2, 2, 32, 1024] := by decide

/-- V185 to V189, V268 to V270: the places of JAL's offset bits, unsigned. -/
theorem test_jump_offset_bits :
    [0x001000ef, 0xffdff06f, 0x000ff0ef, 0x8000056f, 0x0000006f, 0x002000ef, 0x400000ef, 0xffffffef].map
      (fun w => jumpOffset (jumpField w)) = [2048, 2097148, 1044480, 1048576, 0, 2, 1024, 2097150] := by decide

/-- V243 to V248: the two pieces of the store offset. -/
theorem test_store_offset_bits :
    [0xfea12e23, 0x7ea12fa3, 0x80a12023, 0x00000fa3, 0x02000023, 0xffff9fa3].map
      (fun w => signed12 (storeField w)) = [-4, 2047, -2048, 31, 32, -1] := by decide

/-- V153 to V156: the places of four of the flags. -/
theorem test_fence_flag_bits :
    [0x0800000f, 0x0100000f, 0x0080000f, 0x0010000f].map (fun w => fenceBits (fenceOf (fenceField w))) =
      [0b10000000, 0b00010000, 0b00001000, 0b00000001] := by decide

/-- V401, V404, V406: the ports of a record. -/
theorem test_ports_of_records :
    portsOf (resultOf .replicate 0xfff1f493) =
      { valid := true, op := 26, rd := 9, rs1 := 3, rs2 := 32, csr := 0, shamt := 0
        imm := 0xffffffff, fencePresent := false, fence := 0x00 } ∧
    portsOf (resultOf .replicate 0xfe059ce3) =
      { valid := true, op := 39, rd := 32, rs1 := 11, rs2 := 0, csr := 0, shamt := 0
        imm := 0xfffffff8, fencePresent := false, fence := 0x00 } ∧
    portsOf (resultOf .replicate 0x0330000f) =
      { valid := true, op := 33, rd := 32, rs1 := 32, rs2 := 32, csr := 0, shamt := 0
        imm := 0x00000000, fencePresent := true, fence := 0x33 } := by decide

/-- V408, V410, V412. -/
theorem test_ports_csr_absent_wired :
    portsOf (resultOf .replicate 0x340fd573) =
      { valid := true, op := 52, rd := 10, rs1 := 32, rs2 := 32, csr := 0x340, shamt := 0
        imm := 0x0000001f, fencePresent := false, fence := 0x00 } ∧
    portsOf (resultOf .replicate 0x00000000) =
      { valid := false, op := 63, rd := 32, rs1 := 32, rs2 := 32, csr := 0, shamt := 0
        imm := 0x00000000, fencePresent := false, fence := 0x00 } ∧
    portsOf (resultOf .wired 0x00359513) =
      { valid := true, op := 10, rd := 10, rs1 := 11, rs2 := 32, csr := 0, shamt := 3
        imm := 0x00000000, fencePresent := false, fence := 0x00 } := by decide

/-- R5, R11, R13: the sizes of the table and of the enumerations, and the second name of x8. -/
theorem test_sizes :
    descriptorTable.length = Config.descriptors ∧ Config.operations = Op.rdinstreth.code.toNat + 1 ∧
    Config.wordWidth = 32 ∧ Config.registerNames = 32 ∧ Register.invalid.code = 32 ∧
    Register.ofNumber 8 = Register.fp ∧ Register.ofSlot 9 = .s1 := by decide

/-- R13: codes 0 to 54 are the indices of the table. -/
theorem test_codes_are_table_indices :
    descriptorTable.map (fun d => d.op.code.toNat) = List.range 55 := by decide

/-- A step changes the observation alone, and from a state that holds another word's (log 3). -/
theorem test_step_frame :
    step { ready .wired 0x00c58533 with observed := .result (some { op := .ecall }) } =
      .next { ready .wired 0x00c58533 with observed := .result (some { op := .add, rd := .a0, rs1 := .a1, rs2 := .a2 }) } := rfl

/-- From reset with nothing placed the step evaluates the word 0, whose result is absent (log 4). -/
theorem test_step_from_reset : step State.reset = .next { State.reset with observed := .result none } := rfl

/-- V405, V410, R231: the ports follow the present word at once, whatever was observed before and with no step. -/
theorem test_ports_follow_the_word :
    (State.reset.present 0xffdff06f).ports =
      { valid := true, op := 46, rd := 0, rs1 := 32, rs2 := 32, csr := 0, shamt := 0
        imm := 0x001ffffc, fencePresent := false, fence := 0x00 } ∧
    (({ ready .replicate 0xffdff06f with observed := .result (some { op := .ecall }) } : State).present 0).ports.valid =
      false := by decide

/-- 95_test_vectors.md section 5.1, program 1: its words one after another. -/
theorem test_program_1 :
    (evaluateAll [0x00000513, 0x00a00593, 0x00b50533, 0xfff58593, 0xfe059ce3, 0x00000073] State.reset).1 =
      [.result (some { op := .addi, rd := .a0, rs1 := .zero }), .result (some { op := .addi, rd := .a1, rs1 := .zero, immediate := 10 }),
       .result (some { op := .add, rd := .a0, rs1 := .a0, rs2 := .a1 }),
       .result (some { op := .addi, rd := .a1, rs1 := .a1, immediate := -1 }),
       .result (some { op := .bne, rs1 := .a1, rs2 := .zero, immediate := -8 }), .result (some { op := .ecall })] := by decide

/-! ### The renderer (49_text_renderer.md R199) -/

/-- R199: one example of each template and R197's signal. -/
theorem test_rendered_examples :
    toText .replicate { op := .add, rd := .a0, rs1 := .a1, rs2 := .a2 } = some "add a0, a1, a2" ∧
    toText .replicate { op := .andi, rd := .s1, rs1 := .gp, immediate := -1 } = some "andi s1, gp, -1" ∧
    toText .replicate { op := .slli, rd := .a0, rs1 := .a1, rs2 := .gp } = some "slli a0, a1, 3" ∧
    toText .wired { op := .slli, rd := .a0, rs1 := .a1, shamt := 3 } = some "slli a0, a1, 3" ∧
    toText .replicate { op := .beq, rs1 := .a0, rs2 := .a1, immediate := 12 } = some "beq a0, a1, 12" ∧
    toText .replicate { op := .auipc, rd := .a0, immediate := 74565 } = some "auipc a0, 74565" ∧
    toText .replicate { op := .jal, rd := .ra, immediate := 2048 } = some "jal ra, 2048" ∧
    toText .replicate { op := .lui, rd := .a0, immediate := 74565 } = none := by decide

/-! ### WellFormed: an ill-formed term for each check -/

theorem test_wf_rd : (Instr.add .invalid .a1 .a2).wellFormed = false := by decide
theorem test_wf_rs1 : (Instr.addi .a0 .invalid 0).wellFormed = false := by decide
theorem test_wf_rs2 : (Instr.sw .a0 .invalid 0).wellFormed = false := by decide
theorem test_wf_branch_rs1 : (Instr.beq .invalid .a1 0).wellFormed = false := by decide
theorem test_wf_upper_rd : (Instr.lui .invalid 0).wellFormed = false := by decide
theorem test_wf_csr_rd : (Instr.csrrwi .invalid 0 0).wellFormed = false := by decide
theorem test_wf_shift_rs1 : (Instr.slli .a0 .invalid 0).wellFormed = false := by decide
theorem test_wf_ebreak_code : (Instr.ebreak 0 0 0).wellFormed = false := by decide
theorem test_wf_ebreak_one : (Instr.ebreak 1 0 0).wellFormed = true := by decide

/-- R161: the ill-formed EBREAK has the word of ECALL. -/
theorem test_ebreak_of_zero_is_ecall : decodeWord (encode (.ebreak 0 0 0)) = some (.ecall 0 0) := by decide

/-! ### A witness for the hypotheses of each statement that has some -/

/-- Both clauses where they meet. -/
theorem witness_NumbersDecodeToRegisters :
    (31 < 32 ∧ (Register.ofNumber 31).code.toNat = 31) ∧ (32 ≤ 32 ∧ Register.ofNumber 32 = .invalid) := by decide

/-- A recognised word and an absent one. -/
theorem witness_StepRunsDecodedInstruction :
    decodeWord (ready .wired 0x40035293).word = some (.srai .t0 .t1 0) ∧
    decodeWord (ready .wired 0x00004073).word = none := by decide

/-- Both modes. -/
theorem witness_ShiftImmediateMeaningsComplete :
    (ready .replicate 0).cfg.shamtMode = .replicate ∧ (ready .wired 0).cfg.shamtMode = .wired := by decide

/-- A meaning that answers a next state. -/
theorem witness_MeaningsChangeTheResultAlone :
    exec (.csrrwi .a0 31 0x340) (ready .replicate 0) =
      .next { ready .replicate 0 with observed := .result (some { op := .csrrwi, rd := .a0, csr := 0x340, immediate := 31 }) } := rfl

/-- A word of each operation, and a word that is not. -/
theorem witness_RegisterArithmeticWords :
    masked 0xfe00707f 0x00000033 0x00c58533 ∧ masked 0xfe00707f 0x40000033 0x407302b3 ∧
    masked 0xfe00707f 0x00001033 0x01249433 ∧ masked 0xfe00707f 0x00002033 0x01eeae33 ∧
    masked 0xfe00707f 0x00003033 0x00d63533 ∧ masked 0xfe00707f 0x00004033 0x015a49b3 ∧
    masked 0xfe00707f 0x00005033 0x018bdb33 ∧ masked 0xfe00707f 0x40005033 0x41bd5cb3 ∧
    masked 0xfe00707f 0x00006033 0x01ff6eb3 ∧ masked 0xfe00707f 0x00007033 0x019d7db3 ∧
    ¬ masked 0xfe00707f 0x00000033 0x407302b3 := by
  unfold masked; decide

/-- A word of the opcode that none of the rows takes in. -/
theorem witness_RegisterArithmeticWords_absent :
    bits 0x40001033 6 0 = 0b0110011 ∧ ∀ p ∈ registerRows, ¬ masked p.1 p.2 0x40001033 := by
  simp [bits, masked, registerRows]

/-- A word of each operation, and a word that is not. -/
theorem witness_ShiftImmediateWords :
    masked 0xfe00707f 0x00001013 0x00359513 ∧ masked 0xfe00707f 0x00005013 0x01f5d513 ∧
    masked 0xfe00707f 0x40005013 0x41f6d693 ∧ ¬ masked 0xfe00707f 0x00001013 0x01f5d513 := by
  unfold masked; decide

/-- A word of the opcode that none of the rows takes in. -/
theorem witness_ShiftImmediateWords_absent :
    bits 0x02051513 6 0 = 0b0010011 ∧ ∀ p ∈ immediateRows, ¬ masked p.1 p.2 0x02051513 := by
  simp [bits, masked, immediateRows]

/-- A word of each operation, and a word that is not. -/
theorem witness_MultiplyDivideWords :
    masked 0xfe00707f 0x02000033 0x02b50633 ∧ masked 0xfe00707f 0x02001033 0x02b516b3 ∧
    masked 0xfe00707f 0x02002033 0x03eeae33 ∧ masked 0xfe00707f 0x02003033 0x03eebe33 ∧
    masked 0xfe00707f 0x02004033 0x02b54733 ∧ masked 0xfe00707f 0x02005033 0x0349d933 ∧
    masked 0xfe00707f 0x02006033 0x02d767b3 ∧ masked 0xfe00707f 0x02007033 0x03ffffb3 ∧
    ¬ masked 0xfe00707f 0x02000033 0x02b516b3 := by
  unfold masked; decide

/-- A word of the opcode that none of the rows takes in. -/
theorem witness_MultiplyDivideWords_absent :
    bits 0x04000033 6 0 = 0b0110011 ∧ ∀ p ∈ registerRows, ¬ masked p.1 p.2 0x04000033 := by
  simp [bits, masked, registerRows]

/-- A word of each operation, and a word that is not. -/
theorem witness_ImmediateArithmeticWords :
    masked 0x0000707f 0x00000013 0xfff58513 ∧ masked 0x0000707f 0x00002013 0xfff32293 ∧
    masked 0x0000707f 0x00003013 0xfff5b513 ∧ masked 0x0000707f 0x00004013 0xfff44393 ∧
    masked 0x0000707f 0x00006013 0x7ffeee13 ∧ masked 0x0000707f 0x00007013 0xfff1f493 ∧
    ¬ masked 0x0000707f 0x00000013 0xfff32293 := by
  unfold masked; decide

/-- A word of each operation, and a word that is not. -/
theorem witness_LoadWords :
    masked 0x0000707f 0x00000003 0xfff10503 ∧ masked 0x0000707f 0x00001003 0xffe51703 ∧
    masked 0x0000707f 0x00002003 0x0205a603 ∧ masked 0x0000707f 0x00004003 0x7ff6c603 ∧
    masked 0x0000707f 0x00005003 0xffe7d703 ∧ ¬ masked 0x0000707f 0x00000003 0xffe51703 := by
  unfold masked; decide

/-- A word of the opcode that none of the rows takes in. -/
theorem witness_LoadWords_absent :
    bits 0x00813503 6 0 = 0b0000011 ∧ ∀ p ∈ ([(0x0000707f, 0x00000003), (0x0000707f, 0x00001003),
      (0x0000707f, 0x00002003), (0x0000707f, 0x00004003),
      (0x0000707f, 0x00005003)] : List (Word × Word)), ¬ masked p.1 p.2 0x00813503 := by
  simp [bits, masked]

/-- A word of each operation, and a word that is not. -/
theorem witness_JumpWords :
    masked 0x0000707f 0x00000067 0xffc500e7 ∧ masked 0x0000007f 0x0000006f 0xffffffef ∧
    ¬ masked 0x0000707f 0x00000067 0xffffffef := by
  unfold masked; decide

/-- A word of the opcode that none of the rows takes in. -/
theorem witness_JumpWords_absent :
    bits 0x000510e7 6 0 = 0b1100111 ∧ ∀ p ∈ ([(0x0000707f, 0x00000067)] : List (Word × Word)),
      ¬ masked p.1 p.2 0x000510e7 := by
  simp [bits, masked]

/-- A word of each operation, and a word that is not. -/
theorem witness_FenceWords :
    masked 0x0000707f 0x0000000f 0x8330000f ∧ masked 0x0000707f 0x0000100f 0xffff9f8f ∧
    ¬ masked 0x0000707f 0x0000000f 0xffff9f8f := by
  unfold masked; decide

/-- A word of each operation, and a word that is not. -/
theorem witness_StoreWords :
    masked 0x0000707f 0x00000023 0xfed50fa3 ∧ masked 0x0000707f 0x00001023 0x80e11023 ∧
    masked 0x0000707f 0x00002023 0xfea12e23 ∧ ¬ masked 0x0000707f 0x00000023 0x80e11023 := by
  unfold masked; decide

/-- A word of the opcode that none of the rows takes in. -/
theorem witness_StoreWords_absent :
    bits 0x00a13423 6 0 = 0b0100011 ∧ ∀ p ∈ ([(0x0000707f, 0x00000023), (0x0000707f, 0x00001023),
      (0x0000707f, 0x00002023)] : List (Word × Word)), ¬ masked p.1 p.2 0x00a13423 := by
  simp [bits, masked]

/-- A word of each operation, and a word that is not. -/
theorem witness_BranchWords :
    masked 0x0000707f 0x00000063 0x00b50663 ∧ masked 0x0000707f 0x00001063 0xfe051ee3 ∧
    masked 0x0000707f 0x00004063 0x7e62cfe3 ∧ masked 0x0000707f 0x00005063 0xffc3d8e3 ∧
    masked 0x0000707f 0x00006063 0x01de60e3 ∧ masked 0x0000707f 0x00007063 0xfed67fe3 ∧
    ¬ masked 0x0000707f 0x00000063 0xfe051ee3 := by
  unfold masked; decide

/-- A word of the opcode that none of the rows takes in. -/
theorem witness_BranchWords_absent :
    bits 0x00b52663 6 0 = 0b1100011 ∧ ∀ p ∈ ([(0x0000707f, 0x00000063), (0x0000707f, 0x00001063),
      (0x0000707f, 0x00004063), (0x0000707f, 0x00005063), (0x0000707f, 0x00006063),
      (0x0000707f, 0x00007063)] : List (Word × Word)), ¬ masked p.1 p.2 0x00b52663 := by
  simp [bits, masked]

/-- A word of each operation, and a word that is not. -/
theorem witness_UpperImmediateWords :
    masked 0x0000007f 0x00000037 0xfffff2b7 ∧ masked 0x0000007f 0x00000017 0xffffff97 ∧
    ¬ masked 0x0000007f 0x00000037 0xffffff97 := by
  unfold masked; decide

/-- A word of each operation, and a word that is not. -/
theorem witness_CsrRegisterWords :
    masked 0x0000707f 0x00001073 0x30059573 ∧ masked 0x0000707f 0x00002073 0xfff322f3 ∧
    masked 0x0000707f 0x00003073 0x001433f3 ∧ ¬ masked 0x0000707f 0x00001073 0xfff322f3 := by
  unfold masked; decide

/-- A word of each operation, and a word that is not. -/
theorem witness_CsrImmediateWords :
    masked 0x0000707f 0x00005073 0x340fd573 ∧ masked 0x0000707f 0x00006073 0x30046073 ∧
    masked 0x0000707f 0x00007073 0xfffffff3 ∧ ¬ masked 0x0000707f 0x00005073 0x30046073 := by
  unfold masked; decide

/-- `word[31:20]` at 0, at 1 and at its greatest, and a word of another shape. -/
theorem witness_EnvironmentWords :
    (masked 0x0000707f 0x00000073 0x000f8ff3 ∧ bits 0x000f8ff3 31 20 = 0) ∧
    (masked 0x0000707f 0x00000073 0x00100073 ∧ bits 0x00100073 31 20 ≠ 0) ∧
    (masked 0x0000707f 0x00000073 0xfff00073 ∧ bits 0xfff00073 31 20 ≠ 0) ∧ ¬ masked 0x0000707f 0x00000073 0x30059573 := by
  unfold masked; decide

/-- Well-formed instructions at the edges of their operands. -/
theorem witness_DecodeOfEncodeIsIdentity :
    (Instr.ebreak 1 0 0).WellFormed ∧ (Instr.bgeu .t6 .zero 0x800).WellFormed ∧
    (Instr.jal .zero 0xfffff).WellFormed := by decide

/-- A word with every ignored bit set. -/
theorem witness_EncodeOfDecodeIsIdentity :
    decodeWord 0xffff9f8f = some (.fenceI 0xf 0xff 0x1f 0x1f) := by decide

/-- A reordered table; descriptors 47 and 48, which match one word. -/
theorem witness_DeclarationOrderIsUnobservable :
    descriptorTable.reverse.Perm descriptorTable ∧
    ∃ d e : Descriptor, descriptorTable[47]? = some d ∧ descriptorTable[48]? = some e ∧
      d.fits (selectorsOf 0x00000073) = true ∧ e.fits (selectorsOf 0x00000073) = true :=
  ⟨List.reverse_perm _, rowSpecial .ecall 0b000, rowSpecial .ebreak 0b000, rfl, rfl, by decide, by decide⟩

/-- A step from a state whose observation is not sound. -/
theorem witness_EveryStepLeavesASoundResult :
    step { ready .replicate 0x8330000f with observed := .result (some { op := .rdcycle }) } =
      .next { ready .replicate 0x8330000f with
        observed := .result (some
          { op := .fence
            fence := some
              { pi := false, po := false, pr := true, pw := true, si := false, so := false, sr := true, sw := true } }) } := rfl

/-- Two states of one configuration. -/
theorem witness_InterleavedStreamsDoNotInteract :
    (ready .wired 0x00000013).cfg = (ready .wired 0xffffffff).cfg := by decide

/-- Two states that differ in the observation alone, and their steps. -/
theorem witness_SameWordSameResult :
    ({ ready .replicate 0x00000073 with observed := .result (some { op := .ebreak }) } : State).word =
      (ready .replicate 0x00000073).word ∧
    ({ ready .replicate 0x00000073 with observed := .result (some { op := .ebreak }) } : State).cfg = (ready .replicate 0x00000073).cfg ∧
    step { ready .replicate 0x00000073 with observed := .result (some { op := .ebreak }) } =
      .next { ready .replicate 0x00000073 with observed := .result (some { op := .ecall }) } ∧
    step (ready .replicate 0x00000073) = .next { ready .replicate 0x00000073 with observed := .result (some { op := .ecall }) } :=
  ⟨rfl, rfl, rfl, rfl⟩

/-- A step to a record and a step to absent. -/
theorem witness_AbsentExactlyWhenNoDescriptorMatches :
    step (ready .replicate 0x00000037) =
      .next { ready .replicate 0x00000037 with observed := .result (some { op := .lui, rd := .zero }) } ∧
    step (ready .replicate 0x00000000) = .next { ready .replicate 0x00000000 with observed := .result none } := ⟨rfl, rfl⟩

/-- A listed word and one that is not. -/
theorem witness_RecognisedWordsAreTheListedOnes :
    step (ready .replicate 0x00007073) =
      .next { ready .replicate 0x00007073 with observed := .result (some { op := .csrrci, rd := .zero }) } ∧
    recognised (selectorsOf 0x00007073) = true ∧
    step (ready .replicate 0x00004073) = .next { ready .replicate 0x00004073 with observed := .result none } ∧
    recognised (selectorsOf 0x00004073) = false := ⟨rfl, rfl, rfl, rfl⟩

/-- Two states with one word and one configuration that differ in what was observed, and a step from one of them. -/
theorem witness_OutputsFollowThePresentWord :
    ({ ready .wired 0x00000037 with observed := .result none } : State).word = (ready .wired 0x00000037).word ∧
    ({ ready .wired 0x00000037 with observed := .result none } : State).cfg = (ready .wired 0x00000037).cfg ∧
    step { ready .wired 0x00000037 with observed := .result none } =
      .next { ready .wired 0x00000037 with observed := .result (some { op := .lui, rd := .zero }) } := ⟨rfl, rfl, rfl⟩

/-- A step from a state whose observation is another word's. -/
theorem witness_ObservationsAreOfThePresentWord :
    step { ready .wired 0x00000037 with observed := .result (some { op := .ecall }) } =
      .next { ready .wired 0x00000037 with observed := .result (some { op := .lui, rd := .zero }) } := rfl

/-- A word that two descriptors match, found at the lesser index, and a word that none matches. -/
theorem witness_LookupIsTheFirstMatch :
    lookup 0x00100073 = some (rowSpecial .ecall 0b000) ∧ descriptorTable[47]? = some (rowSpecial .ecall 0b000) ∧
    lookup 0x00004073 = none := ⟨rfl, rfl, rfl⟩

/-- A descriptor and a word it matches, one it does not. -/
theorem witness_MatchPredicatesAreMasks :
    (row .bge .sb 0b1100011 0b101).fits (selectorsOf 0xffc3d8e3) = true ∧
    (row .bge .sb 0b1100011 0b101).fits (selectorsOf 0xfed67fe3) = false := by decide

/-- A step to ECALL, one to EBREAK, one to an R-format and one to a U-format operation, and their descriptors. -/
theorem witness_ResultsClassifyTheirWords :
    step (ready .replicate 0x000f8ff3) = .next { ready .replicate 0x000f8ff3 with observed := .result (some { op := .ecall }) } ∧
    step (ready .replicate 0x80000073) = .next { ready .replicate 0x80000073 with observed := .result (some { op := .ebreak }) } ∧
    step (ready .replicate 0x00004033) =
      .next { ready .replicate 0x00004033 with observed := .result (some { op := .xor, rd := .zero, rs1 := .zero, rs2 := .zero }) } ∧
    step (ready .replicate 0x80000037) =
      .next { ready .replicate 0x80000037 with observed := .result (some { op := .lui, rd := .zero, immediate := 524288 }) } ∧
    [Op.ecall, .ebreak, .xor, .lui].all (fun o => descriptorTable.any (fun d => d.op == o)) = true :=
  ⟨rfl, rfl, rfl, rfl, rfl⟩

/-- The rule's four fields, and both values of `word[31]`. -/
theorem witness_ImmediateI :
    bits 0xfff58513 31 20 = 0xfff ∧ bits 0x12358513 31 20 = 0x123 ∧ bits 0x80058513 31 20 = 0x800 ∧
    bits 0x7ff58513 31 20 = 0x7ff ∧ bits 0x80058513 31 31 = 1 ∧ ¬ bits 0x7ff58513 31 31 = 1 := by decide

/-- Both values of `word[31]`, at the least and the greatest offset. -/
theorem witness_ImmediateSB :
    bits 0x80000063 31 31 = 1 ∧ ¬ bits 0x7e000fe3 31 31 = 1 := by decide

/-- The rule's example and `word[31]` = 1 at its least and greatest. -/
theorem witness_ImmediateU :
    (0x12345517 : Word) = 0x12345517 ∧ bits 0x80000037 31 31 = 1 ∧ bits 0xfffff2b7 31 31 = 1 := by decide

/-- `word[31]` = 1 at its least and greatest. -/
theorem witness_ImmediateUJ :
    bits 0x8000056f 31 31 = 1 ∧ bits 0xffffffef 31 31 = 1 := by decide

/-- A result, and a record of a reserved operation. -/
theorem witness_NoWordGivesAReservedOperation :
    step (ready .replicate 0xc0002573) =
      .next { ready .replicate 0xc0002573 with observed := .result (some { op := .csrrs, rd := .a0, rs1 := .zero, csr := 0xc00 }) } ∧
    ({ op := .rdinstreth } : Instruction).op.reserved = true := ⟨rfl, rfl⟩

/-- The least and the greatest rd, the first and the last index. -/
theorem witness_CounterReadsAreCsrrs :
    (0 < 32 ∧ 0xC00 ∈ [0xC00, 0xC80, 0xC01, 0xC81, 0xC02, 0xC82] ∧
      (0xc0002073 : Word) = BitVec.ofNat 32 (0xC00 * 2 ^ 20 + 0 * 2 ^ 15 + 0b010 * 2 ^ 12 + 0 * 2 ^ 7 + 0b1110011)) ∧
    (31 < 32 ∧ 0xC82 ∈ [0xC00, 0xC80, 0xC01, 0xC81, 0xC02, 0xC82] ∧
      (0xc8202ff3 : Word) = BitVec.ofNat 32 (0xC82 * 2 ^ 20 + 0 * 2 ^ 15 + 0b010 * 2 ^ 12 + 31 * 2 ^ 7 +
        0b1110011)) := by decide

/-- The five opcodes and the three other endings. -/
theorem witness_UnsupportedSpacesAreAbsent :
    [0x1005202f, 0x0000000b, 0x0000002b, 0x0000005b, 0x0000007b].all
      (fun w => decide (bits w 6 0 ∈ [0b0101111, 0b0001011, 0b0101011, 0b1011011, 0b1111011])) = true ∧
    bits 0x00000000 1 0 ≠ 0b11 ∧ bits 0x00010001 1 0 ≠ 0b11 ∧ bits 0x00008082 1 0 ≠ 0b11 := by decide

/-- Two FENCE words, two FENCE.I words and two ECALL words that differ in every ignored bit. -/
theorem witness_IgnoredBitsChangeNothing :
    [((0x0330000f : Word), (0xf33f8f8f : Word)), (0x0ff0100f, 0xffff9f8f), (0x00000073, 0x000f8ff3)].all (fun p =>
      decide (bits p.1 6 0 = bits p.2 6 0 ∧ bits p.1 14 12 = bits p.2 14 12 ∧
        ((bits p.1 6 0 = 0b0001111 ∧ bits p.1 27 20 = bits p.2 27 20) ∨
          (bits p.1 6 0 = 0b1110011 ∧ bits p.1 14 12 = 0b000 ∧ bits p.1 31 20 = bits p.2 31 20)))) = true ∧
    step (ready .wired 0x00000073) = .next { ready .wired 0x00000073 with observed := .result (some { op := .ecall }) } ∧
    step (ready .wired 0x000f8ff3) = .next { ready .wired 0x000f8ff3 with observed := .result (some { op := .ecall }) } :=
  ⟨by decide, rfl, rfl⟩

/-- Two words with the same selectors, in two configurations. -/
theorem witness_OperationDependsOnTheSelectors :
    bits 0x00100073 6 0 = bits 0x00f00073 6 0 ∧ bits 0x00100073 14 12 = bits 0x00f00073 14 12 ∧
    bits 0x00100073 31 25 = bits 0x00f00073 31 25 ∧ (bits 0x00100073 31 20 = 0 ↔ bits 0x00f00073 31 20 = 0) ∧
    (ready .wired 0x00100073).ports.valid = true ∧ (ready .replicate 0x00f00073).ports.valid = true := by decide

/-- A shift-immediate and another operation, in both modes. -/
theorem witness_ShamtModeAffectsShiftImmediatesAlone :
    decode { shamtMode := .replicate } 0x00359513 = some { op := .slli, rd := .a0, rs1 := .a1, rs2 := .gp } ∧
    decode { shamtMode := .wired } 0x00359513 = some { op := .slli, rd := .a0, rs1 := .a1, shamt := 3 } ∧
    decode { shamtMode := .wired } 0x003110b3 = some { op := .sll, rd := .ra, rs1 := .sp, rs2 := .gp } ∧
    decode { shamtMode := .replicate } 0x003110b3 = some { op := .sll, rd := .ra, rs1 := .sp, rs2 := .gp } := by decide

/-- Words whose operations stand at the ends of the ranges of codes that the clauses name (R13), under `wired`. -/
theorem witness_OutputsFollowTheWord :
    [0x00c58533, 0x40001013, 0x00359513, 0x41f55513, 0x03fff033, 0x12358513, 0xffc500e7, 0x0330000f, 0xffff9f8f, 0xfea10fa3,
     0xfea12e23, 0x00b50663, 0xfed67fe3, 0x12345537, 0x12345517, 0xffdff06f, 0x00000073, 0x00100073, 0x30059573,
     0x3042b073, 0x340fd573, 0xfffffff3].map (fun w => (resultOf .wired w).map (fun r => r.op.code.toNat)) =
    [some 0, none, some 10, some 12, some 20, some 21, some 32, some 33, some 34, some 35, some 37, some 38, some 43,
     some 44, some 45, some 46, some 47, some 48, some 49, some 51, some 52, some 54] ∧
    (ready .wired 0x00359513).outputs = some { op := .slli, rd := .a0, rs1 := .a1, shamt := 3 } := by decide

/-- Two words with the same ports. -/
theorem witness_PortsDetermineTheResult :
    step (ready .wired 0x00200073) = .next { ready .wired 0x00200073 with observed := .result (some { op := .ebreak }) } ∧
    step (ready .wired 0x00100073) = .next { ready .wired 0x00100073 with observed := .result (some { op := .ebreak }) } ∧
    ({ ready .wired 0x00200073 with observed := .result (some { op := .ebreak }) } : State).ports =
      ({ ready .wired 0x00100073 with observed := .result (some { op := .ebreak }) } : State).ports := ⟨rfl, rfl, rfl⟩

/-- A record of an operation outside the list, and a step to one inside it. -/
theorem witness_RenderedOperationsAreTheListedOnes :
    ({ op := .mul } : Instruction).op ∉ [Op.add, .sub, .sll, .slt, .sltu, .xor, .srl, .sra, .or, .and, .addi, .slti, .sltiu,
      .xori, .ori, .andi, .slli, .srli, .srai, .beq, .bne, .blt, .bge, .bltu, .bgeu, .auipc, .jal] ∧
    step (ready .wired 0x001000ef) =
      .next { ready .wired 0x001000ef with observed := .result (some { op := .jal, rd := .ra, immediate := 2048 }) } ∧
    toText .wired { op := .jal, rd := .ra, immediate := 2048 } = some "jal ra, 2048" :=
  ⟨by decide, rfl, by decide⟩

end Sys2Proof.Tests
end

namespace Sys2Proof.Machine

/-! ### Decoding and extracting after the scan (30_encoding.md R53 to R55) -/

theorem decode_of_lookup_none {w : Word} (h : lookup w = none) (c : Config) : decode c w = none := by
  simp [decode, h]

theorem decode_of_lookup_some {w : Word} {d : Descriptor} (h : lookup w = some d) (c : Config) :
    decode c w = some (extract c d w) := by
  simp [decode, h]

theorem decodeWord_of_lookup_some {w : Word} {d : Descriptor} (h : lookup w = some d) : decodeWord w = instrOf d.op w := by
  simp [decodeWord, h]

theorem step_of_decodeWord_none {s : State} (h : decodeWord s.word = none) : step s = deliverAbsent s := by
  simp [step, h]

theorem step_of_decodeWord_some {s : State} {i : Instr} (h : decodeWord s.word = some i) : step s = exec i s := by
  simp [step, h]

/-! ### The simulation, row by row of the table -/

/-- The two descriptions of the block agree on a descriptor: the instruction its operation builds from a word runs to the
delivery of the record its format's extractor takes from that word. -/
def DeliversExtract (d : Descriptor) : Prop :=
  ∀ (w : Word) (s : State), ∃ i, instrOf d.op w = some i ∧ exec i s = deliver (extract s.cfg d w) s

/-- R161: ECALL and EBREAK are told apart by the word, after the match and whichever of their two rows matched. -/
theorem exec_environmentInstr (w : Word) (s : State) :
    exec (environmentInstr w) s = deliver (recordBare (if upper12 w = 0 then .ecall else .ebreak)) s := by
  unfold environmentInstr
  split <;> rfl

theorem deliversExtract_of_mem_tableSpecial {d : Descriptor} (h : d ∈ tableSpecial) : DeliversExtract d := by
  intro w s
  fin_cases h
  -- the rows of ECALL and EBREAK, then those of CSR access
  iterate 2 · exact ⟨_, rfl, exec_environmentInstr w s⟩
  all_goals exact ⟨_, rfl, rfl⟩

/-- Outside the Special rows the extractor depends on the row alone, so that both sides compute. -/
theorem deliversExtract_of_mem {d : Descriptor} (h : d ∈ descriptorTable) : DeliversExtract d := by
  simp only [descriptorTable, List.mem_append] at h
  obtain ((((((h | h) | h) | h) | h) | h) | h) | h := h
  case inr => exact deliversExtract_of_mem_tableSpecial h
  all_goals
    intro w s
    fin_cases h <;> exact ⟨_, rfl, rfl⟩

/-! ### The step -/

/-- Everything a step can do, from any state: what the outputs show of the present word is observed, and nothing else
changes. -/
theorem step_eq_next_observe (s : State) : step s = .next (s.observe s.outputs) := by
  cases h : lookup s.word with
  | none =>
    have hout : s.outputs = none := decode_of_lookup_none h s.cfg
    rw [step_of_decodeWord_none (decodeWord_eq_none.mpr h), hout]
    rfl
  | some d =>
    have hout : s.outputs = some (extract s.cfg d s.word) := decode_of_lookup_some h s.cfg
    obtain ⟨i, hi, hexec⟩ := deliversExtract_of_mem (scan_some h).1 s.word s
    rw [step_of_decodeWord_some ((decodeWord_of_lookup_some h).trans hi), hexec, hout]
    rfl

theorem step_eq_next_iff {s t : State} : step s = .next t ↔ t = s.observe s.outputs := by
  rw [step_eq_next_observe, Host.Outcome.next.injEq, eq_comm]

/-- Settles O29: by the simulation of the rows, through what every step does. -/
theorem evaluationIsDecode : Obligations.EvaluationIsDecode := step_eq_next_observe

/-! ### The two invariants of the observation (00_scope.md R9, 10_state.md R16) -/

theorem faithful_of_pending {s : State} (h : s.observed = .pending) : s.Faithful := by
  simp [State.Faithful, h, Observation.holds]

theorem sound_of_pending {s : State} (h : s.observed = .pending) : s.Sound := by
  simp [State.Sound, h, Observation.holds]

@[simp] theorem observe_faithful_iff (s : State) (r : Option Instruction) : (s.observe r).Faithful ↔ r = s.outputs := Iff.rfl

/-- Settles O59: presenting empties the observation, and a step observes what the outputs show. -/
theorem observationsAreOfThePresentWord : Obligations.ObservationsAreOfThePresentWord := by
  refine ⟨fun s w => faithful_of_pending (present_observed s w), fun s t h => ?_⟩
  obtain rfl := step_eq_next_iff.mp h
  exact ⟨observe_observed s s.outputs, (observe_faithful_iff s s.outputs).mpr rfl⟩

/-! ### Reset (00_scope.md R5, 70_reset_and_hazards.md R231) -/

/-- Settles O4: holding a word during reset is presenting it, and the ports follow the word presented. -/
theorem resetDefaultsAndOutputs : Obligations.ResetDefaultsAndOutputs :=
  ⟨rfl, present_ports State.reset⟩

/-- Settles O5: nothing is observed after reset. -/
theorem resetIsFaithfulAndSound : Obligations.ResetIsFaithfulAndSound :=
  ⟨faithful_of_pending rfl, sound_of_pending rfl⟩

end Sys2Proof.Machine

namespace Sys2Proof

/-! ### Registers, operations and their codes (10_state.md R11 to R13) -/

theorem named_code_ofNumber :
    ∀ n : Nat, n < 32 → (Register.ofNumber n).named = true ∧ (Register.ofNumber n).code.toNat = n := by
  decide

theorem ofNumber_of_le {n : Nat} (h : 32 ≤ n) : Register.ofNumber n = .invalid := by
  obtain ⟨k, rfl⟩ := Nat.exists_eq_add_of_le' h
  rfl

/-- Settles O1: the numbers below 32 one by one, and the last arm of the numeric decode for the others. -/
theorem numbersDecodeToRegisters : Obligations.NumbersDecodeToRegisters :=
  ⟨named_code_ofNumber, fun _ => ofNumber_of_le⟩

/-- R13: the codes are the places of the operations in their enumeration. -/
theorem ofNat_code (op : Op) : Op.ofNat op.code.toNat = op := by
  cases op <;> rfl

theorem opCode_injective {op op' : Op} (h : op.code = op'.code) : op = op' := by
  rw [← ofNat_code op, ← ofNat_code op', h]

/-! The three register slots of a word never hold `Invalid` (R12). -/

@[simp] theorem named_rdOf (w : Word) : (rdOf w).named = true := named_ofSlot _
@[simp] theorem named_rs1Of (w : Word) : (rs1Of w).named = true := named_ofSlot _
@[simp] theorem named_rs2Of (w : Word) : (rs2Of w).named = true := named_ofSlot _
@[simp] theorem named_invalid : Register.invalid.named = false := rfl

end Sys2Proof

namespace Sys2Proof.Machine

/-! ### What a meaning does to the state -/

@[simp] theorem recordShift_op (mode : ShamtMode) (op : Op) (rd rs1 : Register) (amount : Slot) :
    (recordShift mode op rd rs1 amount).op = op := by
  cases mode <;> rfl

/-- Every meaning is the delivery of one record, of the instruction's own operation. -/
theorem exec_eq_deliver (i : Instr) (s : State) : ∃ r, exec i s = deliver r s ∧ r.op = i.op := by
  cases i
  case slli | srli | srai => exact ⟨_, rfl, recordShift_op ..⟩
  all_goals exact ⟨_, rfl, rfl⟩

/-- Settles O15: a meaning delivers a record, and delivering changes the observation alone. -/
theorem meaningsChangeTheResultAlone : Obligations.MeaningsChangeTheResultAlone := by
  intro i s t h
  obtain ⟨r, hexec, hop⟩ := exec_eq_deliver i s
  obtain rfl := (deliver_eq_next_iff r s t).mp (hexec ▸ h)
  exact ⟨observe_cfg .., observe_word .., r, observe_observed .., hop⟩

/-! ### The outputs (70_reset_and_hazards.md R231) -/

theorem ports_congr {s s' : State} (hword : s.word = s'.word) (hcfg : s.cfg = s'.cfg) : s.ports = s'.ports := by
  simp only [State.ports, State.outputs, hword, hcfg]

/-- Settles O58: the outputs read the word and the configuration, and a step writes neither. -/
theorem outputsFollowThePresentWord : Obligations.OutputsFollowThePresentWord := by
  refine ⟨present_ports, fun s s' => ports_congr, fun s t h => ?_⟩
  obtain rfl := step_eq_next_iff.mp h
  exact ⟨observe_outputs .., observe_ports ..⟩

/-! ### The record of each extractor conforms to its operation's field set (10_state.md R16, 30_encoding.md R64) -/

theorem branchOffset_even (offset : BitVec 12) : branchOffset offset % 2 = 0 := by
  rw [branchOffset_eq, Int.mul_emod_right]

theorem jumpOffset_even (offset : BitVec 20) : jumpOffset offset % 2 = 0 := by
  rw [jumpOffset_eq, Int.mul_emod_right]

theorem jumpOffset_range (offset : BitVec 20) : 0 ≤ jumpOffset offset ∧ jumpOffset offset ≤ 2097150 := by
  have h := offset.isLt
  rw [jumpOffset_eq]
  omega

section
variable {op : Op} {rd rs1 rs2 : Register} (mode : ShamtMode)

theorem conforms_recordR (hop : fieldSet op = some .registers) (hrd : rd.named = true) (hrs1 : rs1.named = true)
    (hrs2 : rs2.named = true) : conforms mode (recordR op rd rs1 rs2) = true := by
  simp [conforms, recordR, hop, fieldsAre, hrd, hrs1, hrs2]

/-- R82: in either mode the amount stands in the one field the mode names. -/
theorem conforms_recordShift (hop : fieldSet op = some .shift) (hrd : rd.named = true) (hrs1 : rs1.named = true)
    (amount : Slot) : conforms mode (recordShift mode op rd rs1 amount) = true := by
  cases mode <;> simp [conforms, recordShift, hop, fieldsAre, hrd, hrs1]

theorem conforms_recordI (hop : fieldSet op = some .immediate) (hrd : rd.named = true) (hrs1 : rs1.named = true)
    (imm : BitVec 12) : conforms mode (recordI op rd rs1 imm) = true := by
  simp [conforms, recordI, hop, fieldsAre, hrd, hrs1, signed12_range imm]

theorem conforms_recordFence (hop : fieldSet op = some .fence) (flags : BitVec 8) :
    conforms mode (recordFence op flags) = true := by
  simp [conforms, recordFence, hop, fieldsAre]

theorem conforms_recordS (hop : fieldSet op = some .store) (hrs1 : rs1.named = true) (hrs2 : rs2.named = true)
    (imm : BitVec 12) : conforms mode (recordS op rs1 rs2 imm) = true := by
  simp [conforms, recordS, hop, fieldsAre, hrs1, hrs2, signed12_range imm]

theorem conforms_recordSB (hop : fieldSet op = some .branch) (hrs1 : rs1.named = true) (hrs2 : rs2.named = true)
    (offset : BitVec 12) : conforms mode (recordSB op rs1 rs2 offset) = true := by
  simp [conforms, recordSB, hop, fieldsAre, hrs1, hrs2, branchOffset_range offset, branchOffset_even offset]

theorem conforms_recordU (hop : fieldSet op = some .upper) (hrd : rd.named = true) (imm : BitVec 20) :
    conforms mode (recordU op rd imm) = true := by
  simp [conforms, recordU, hop, fieldsAre, hrd, upperImmediate_range imm]

theorem conforms_recordUJ (hop : fieldSet op = some .jump) (hrd : rd.named = true) (offset : BitVec 20) :
    conforms mode (recordUJ op rd offset) = true := by
  simp [conforms, recordUJ, hop, fieldsAre, hrd, jumpOffset_range offset, jumpOffset_even offset]

theorem conforms_recordBare (hop : fieldSet op = some .environment) : conforms mode (recordBare op) = true := by
  simp [conforms, recordBare, hop, fieldsAre]

theorem conforms_recordCsrRegister (hop : fieldSet op = some .csrRegister) (hrd : rd.named = true)
    (hrs1 : rs1.named = true) (csr : BitVec 12) : conforms mode (recordCsrRegister op rd rs1 csr) = true := by
  simp [conforms, recordCsrRegister, hop, fieldsAre, hrd, hrs1]

theorem conforms_recordCsrImmediate (hop : fieldSet op = some .csrImmediate) (hrd : rd.named = true) (imm : Slot)
    (csr : BitVec 12) : conforms mode (recordCsrImmediate op rd imm csr) = true := by
  simp [conforms, recordCsrImmediate, hop, fieldsAre, hrd, csrImmediate_range imm]

end

/-! ### Soundness, table by table -/

/-- R16: what the extractor of this descriptor's format takes from any word is a record the operation may give. -/
def ExtractConforms (d : Descriptor) : Prop :=
  ∀ (c : Config) (w : Word), conforms c.shamtMode (extract c d w) = true

/-- R80: the register operations and the M extension are one extractor's. -/
theorem extractConforms_of_mem_register {d : Descriptor} (h : d ∈ tableRegister ∨ d ∈ tableMultiplyDivide) :
    ExtractConforms d := by
  intro c w
  obtain h | h := h <;> fin_cases h <;> exact conforms_recordR _ rfl (named_rdOf w) (named_rs1Of w) (named_rs2Of w)

theorem extractConforms_of_mem_tableShiftImmediate {d : Descriptor} (h : d ∈ tableShiftImmediate) : ExtractConforms d := by
  intro c w
  fin_cases h <;> exact conforms_recordShift _ rfl (named_rdOf w) (named_rs1Of w) _

theorem extractConforms_of_mem_tableImmediate {d : Descriptor} (h : d ∈ tableImmediate) : ExtractConforms d := by
  intro c w
  fin_cases h <;> exact conforms_recordI _ rfl (named_rdOf w) (named_rs1Of w) _

theorem extractConforms_of_mem_tableLoadJumpFence {d : Descriptor} (h : d ∈ tableLoadJumpFence) : ExtractConforms d := by
  intro c w
  fin_cases h
  -- the loads and JALR, then the two fences, which share their tag (R54)
  iterate 6 · exact conforms_recordI _ rfl (named_rdOf w) (named_rs1Of w) _
  all_goals exact conforms_recordFence _ rfl _

theorem extractConforms_of_mem_tableStoreBranch {d : Descriptor} (h : d ∈ tableStoreBranch) : ExtractConforms d := by
  intro c w
  fin_cases h
  -- the stores, then the branches
  iterate 3 · exact conforms_recordS _ rfl (named_rs1Of w) (named_rs2Of w) _
  all_goals exact conforms_recordSB _ rfl (named_rs1Of w) (named_rs2Of w) _

theorem extractConforms_of_mem_tableUpperJump {d : Descriptor} (h : d ∈ tableUpperJump) : ExtractConforms d := by
  intro c w
  fin_cases h
  -- LUI and AUIPC, then JAL
  iterate 2 · exact conforms_recordU _ rfl (named_rdOf w) _
  exact conforms_recordUJ _ rfl (named_rdOf w) _

/-- R161: whichever operation the word selects after the match, it sets no field. -/
theorem fieldSet_environment (w : Word) : fieldSet (if upper12 w = 0 then .ecall else .ebreak) = some .environment := by
  split <;> rfl

theorem extractConforms_of_mem_tableSpecial {d : Descriptor} (h : d ∈ tableSpecial) : ExtractConforms d := by
  intro c w
  fin_cases h
  -- ECALL and EBREAK, the three register forms of CSR access, and the three immediate forms
  iterate 2 · exact conforms_recordBare _ (fieldSet_environment w)
  iterate 3 · exact conforms_recordCsrRegister _ rfl (named_rdOf w) (named_rs1Of w) _
  all_goals exact conforms_recordCsrImmediate _ rfl (named_rdOf w) _ _

theorem extractConforms_of_mem {d : Descriptor} (h : d ∈ descriptorTable) : ExtractConforms d := by
  simp only [descriptorTable, List.mem_append] at h
  obtain ((((((h | h) | h) | h) | h) | h) | h) | h := h
  · exact extractConforms_of_mem_register (.inl h)
  · exact extractConforms_of_mem_tableShiftImmediate h
  · exact extractConforms_of_mem_register (.inr h)
  · exact extractConforms_of_mem_tableImmediate h
  · exact extractConforms_of_mem_tableLoadJumpFence h
  · exact extractConforms_of_mem_tableStoreBranch h
  · exact extractConforms_of_mem_tableUpperJump h
  · exact extractConforms_of_mem_tableSpecial h

/-- R16, R64: the one function of the block gives a sound result for every word. -/
theorem soundResult_decode (c : Config) (w : Word) : soundResult c.shamtMode (decode c w) = true := by
  cases h : lookup w with
  | none => rw [decode_of_lookup_none h]; rfl
  | some d =>
    rw [decode_of_lookup_some h]
    exact extractConforms_of_mem (scan_some h).1 c w

@[simp] theorem observe_sound_iff (s : State) (r : Option Instruction) :
    (s.observe r).Sound ↔ soundResult s.cfg.shamtMode r = true := Iff.rfl

/-- Settles O33: a step observes what `decode` gives of the present word, whatever was observed before. -/
theorem everyStepLeavesASoundResult : Obligations.EveryStepLeavesASoundResult := by
  intro s t h
  obtain rfl := step_eq_next_iff.mp h
  exact (observe_sound_iff s s.outputs).mpr (soundResult_decode s.cfg s.word)

/-! ### The ports of a sound result (10_state.md R17, 92_eei_decisions.md D4) -/

theorem immediate_of_fieldsAre {r : Instruction} {rd rs1 rs2 csr shamt fence : Bool} {low high step : Int}
    (h : fieldsAre r rd rs1 rs2 csr shamt low high step fence = true) : low ≤ r.immediate ∧ r.immediate ≤ high := by
  simp only [fieldsAre, Bool.and_eq_true, decide_eq_true_eq] at h
  obtain ⟨⟨⟨⟨_, hlow⟩, hhigh⟩, _⟩, _⟩ := h
  exact ⟨hlow, hhigh⟩

/-- R64: over all the extractors, the branch offset goes lowest and the jump offset highest. -/
theorem immediate_of_conforms {mode : ShamtMode} {r : Instruction} (h : conforms mode r = true) :
    -4096 ≤ r.immediate ∧ r.immediate ≤ 2097150 := by
  cases mode
  all_goals
    unfold conforms at h
    split at h
    -- a reserved operation has no field set
    · cases h
    all_goals
      have hbounds := immediate_of_fieldsAre h
      omega

/-- D4: the port `imm` carries the immediate modulo 2^32, which loses nothing of a signed 32-bit number. -/
theorem ofInt_injOn {a b : Int} (ha : -2 ^ 31 ≤ a ∧ a < 2 ^ 31) (hb : -2 ^ 31 ≤ b ∧ b < 2 ^ 31)
    (h : BitVec.ofInt 32 a = BitVec.ofInt 32 b) : a = b := by
  have hself (n : Int) (hn : -2 ^ 31 ≤ n ∧ n < 2 ^ 31) : (BitVec.ofInt 32 n).toInt = n :=
    BitVec.toInt_ofInt_eq_self (by decide) hn.1 hn.2
  rw [← hself a ha, h, hself b hb]

/-- R17: the port `fence` gives each flag back. -/
@[simp] theorem fenceOf_fenceBits (f : Fence) : fenceOf (fenceBits f) = f := by
  obtain ⟨pi, po, pr, pw, si, so, sr, sw⟩ := f
  revert pi po pr pw si so sr sw
  decide

theorem fenceBits_injective {f f' : Fence} (h : fenceBits f = fenceBits f') : f = f' := by
  rw [← fenceOf_fenceBits f, ← fenceOf_fenceBits f', h]

/-- R17: the fence ports give the fence back, present or not. -/
theorem fence_of_portsOfRecord_eq {r r' : Instruction} (h : portsOfRecord r = portsOfRecord r') : r.fence = r'.fence := by
  have hpresent : r.fence.isSome = r'.fence.isSome := congrArg Ports.fencePresent h
  have hbits : (portsOfRecord r).fence = (portsOfRecord r').fence := congrArg Ports.fence h
  unfold portsOfRecord at hbits
  cases hr : r.fence <;> cases hr' : r'.fence <;> simp only [hr, hr'] at hpresent hbits
  case none.none => rfl
  case some.some => rw [fenceBits_injective hbits]
  all_goals cases hpresent

/-- The ports lose nothing of a conforming record: every field has a port of its own, and the immediate is in range. -/
theorem portsOfRecord_injOn {mode mode' : ShamtMode} {r r' : Instruction} (hr : conforms mode r = true)
    (hr' : conforms mode' r' = true) (h : portsOfRecord r = portsOfRecord r') : r = r' := by
  have hop : r.op = r'.op := opCode_injective (congrArg Ports.op h)
  have hrd : r.rd = r'.rd := code_injective _ _ (congrArg Ports.rd h)
  have hrs1 : r.rs1 = r'.rs1 := code_injective _ _ (congrArg Ports.rs1 h)
  have hrs2 : r.rs2 = r'.rs2 := code_injective _ _ (congrArg Ports.rs2 h)
  have hcsr : r.csr = r'.csr := congrArg Ports.csr h
  have hshamt : r.shamt = r'.shamt := congrArg Ports.shamt h
  have himm : r.immediate = r'.immediate := by
    have hrange := immediate_of_conforms hr
    have hrange' := immediate_of_conforms hr'
    exact ofInt_injOn (by omega) (by omega) (congrArg Ports.imm h)
  have hfence : r.fence = r'.fence := fence_of_portsOfRecord_eq h
  cases r
  cases r'
  simp only [Instruction.mk.injEq]
  exact ⟨hop, hrd, hrs1, hrs2, hcsr, hshamt, himm, hfence⟩

/-- R18: the port `valid` tells the absent result from every record. -/
theorem portsOf_injOn {mode mode' : ShamtMode} {r r' : Option Instruction} (hr : soundResult mode r = true)
    (hr' : soundResult mode' r' = true) (h : portsOf r = portsOf r') : r = r' := by
  match r, r' with
  | none, none => rfl
  | none, some _ => exact absurd (congrArg Ports.valid h) Bool.false_ne_true
  | some _, none => exact absurd (congrArg Ports.valid h).symm Bool.false_ne_true
  | some _, some _ => exact congrArg some (portsOfRecord_injOn hr hr' h)

/-- Settles O56: both steps observe a sound result of their ports, and the ports are injective on those. -/
theorem portsDetermineTheResult : Obligations.PortsDetermineTheResult := by
  intro s s' t t' h h' hports
  obtain rfl := step_eq_next_iff.mp h
  obtain rfl := step_eq_next_iff.mp h'
  have hout : s.outputs = s'.outputs :=
    portsOf_injOn (soundResult_decode s.cfg s.word) (soundResult_decode s'.cfg s'.word) hports
  rw [observe_observed, observe_observed, hout]

end Sys2Proof.Machine

namespace Sys2Proof.Machine

open Sys2Proof.Claim

/-! ### Absence by opcode (20_memory.md R38, 30_encoding.md R61, R62) -/

/-- R51: every format's match predicate compares the opcode. -/
theorem opcode_eq_of_fits {d : Descriptor} {x : Selectors} (h : d.fits x = true) : x.opcode = d.opcode := by
  unfold Descriptor.fits at h
  split at h <;> simp_all

theorem lookup_eq_none_of_opcode_ne {w : Word} (h : ∀ d ∈ descriptorTable, opcodeOf w ≠ d.opcode) : lookup w = none :=
  scan_none.mpr fun d hd => Bool.eq_false_iff.mpr fun hfits => h d hd (opcode_eq_of_fits hfits)

/-- R6 at the low end of the word: the bits from 0 up to `hi` are a remainder. -/
theorem bits_zero (w : Word) (hi : Nat) : bits w hi 0 = w.toNat % 2 ^ (hi + 1) := by
  simp [bits, Nat.and_two_pow_sub_one_eq_mod]

theorem bits_opcode (w : Word) : bits w 6 0 = (opcodeOf w).toNat :=
  (bits_zero w 6).trans (toNat_opcodeOf w).symm

/-- R62: the two low bits of a word are the two low bits of its opcode. -/
theorem bits_one_zero (w : Word) : bits w 1 0 = (opcodeOf w).toNat % 4 := by
  rw [bits_zero, toNat_opcodeOf]
  omega

/-- R52: no row has the atomic opcode or a custom one. -/
theorem opcode_not_atomic_or_custom :
    ∀ d ∈ descriptorTable, d.opcode.toNat ∉ [0b0101111, 0b0001011, 0b0101011, 0b1011011, 0b1111011] := by decide

/-- R52: the opcode of every row ends in 0b11. -/
theorem opcode_mod_four : ∀ d ∈ descriptorTable, d.opcode.toNat % 4 = 0b11 := by decide

theorem step_of_lookup_none {s : State} (h : lookup s.word = none) : step s = .next (s.observe none) :=
  step_of_decodeWord_none (decodeWord_eq_none.mpr h)

/-- Settles O51: a row of the word's opcode would have an opcode that no row has, or one of another ending. -/
theorem unsupportedSpacesAreAbsent : Obligations.UnsupportedSpacesAreAbsent := by
  intro s hspace
  refine step_of_lookup_none (lookup_eq_none_of_opcode_ne fun d hd hop => ?_)
  rw [bits_opcode, bits_one_zero, hop] at hspace
  obtain hopcode | hlow := hspace
  · exact opcode_not_atomic_or_custom d hd hopcode
  · exact hlow (opcode_mod_four d hd)

end Sys2Proof.Machine

namespace Sys2Proof

/-! ### Which descriptors match a word (30_encoding.md R51 to R53, R56) -/

/-- R51: opcode always, funct3 unless the format is U or UJ, funct7 if it is R. -/
theorem fits_iff {d : Descriptor} {x : Selectors} :
    d.fits x = true ↔ x.opcode = d.opcode ∧ (d.format ≠ .u → d.format ≠ .uj → x.funct3 = d.funct3) ∧
      (d.format = .r → x.funct7 = d.funct7) := by
  unfold Descriptor.fits
  split <;> simp [*, and_assoc]

/-- R161: ECALL's row. -/
abbrev ecallRow : Descriptor := rowSpecial .ecall 0b000

/-- R161: EBREAK's row, which matches the words of ECALL's row and stands below it. -/
abbrev ebreakRow : Descriptor := rowSpecial .ebreak 0b000

/-- The selectors a row matches: its own, completed by any value of those that its format does not compare. -/
def Descriptor.completed (d : Descriptor) (funct3 : BitVec 3) (funct7 : BitVec 7) : Selectors where
  opcode := d.opcode
  funct3 := if d.format = .u ∨ d.format = .uj then funct3 else d.funct3
  funct7 := if d.format = .r then d.funct7 else funct7

theorem fits_iff_completed {d : Descriptor} {x : Selectors} :
    d.fits x = true ↔ x = d.completed x.funct3 x.funct7 := by
  obtain ⟨opcode, funct3, funct7⟩ := x
  rw [fits_iff, Descriptor.completed, Selectors.mk.injEq]
  cases d.format <;> simp

/-- The rows are exclusive but for EBREAK's: the scan answers any other on whatever it matches. -/
theorem scan_completed {d : Descriptor} (hd : d ∈ descriptorTable) (hne : d ≠ ebreakRow) (funct3 : BitVec 3)
    (funct7 : BitVec 7) : scan (d.completed funct3 funct7) = some d := by
  fin_cases hd
  -- the rows above EBREAK's, EBREAK's own, and those below it
  iterate 48 · rfl
  · exact absurd rfl hne
  all_goals rfl

/-- The row that stands for this one in the scan: ECALL's for EBREAK's, and every other for itself. -/
def Descriptor.answered (d : Descriptor) : Descriptor := if d = ebreakRow then ecallRow else d

theorem answered_eq_or (d : Descriptor) : d.answered = d ∨ (d = ebreakRow ∧ d.answered = ecallRow) := by
  unfold Descriptor.answered
  split <;> simp [*]

/-- R161: the two rows match the same words. -/
theorem fits_answered (d : Descriptor) (x : Selectors) : d.answered.fits x = d.fits x := by
  obtain h | ⟨rfl, h⟩ := answered_eq_or d <;> rw [h]
  rfl

/-- R56: every row that matches is answered by the scan, EBREAK's through ECALL's, so that at most one does. -/
theorem scan_of_fits {d : Descriptor} (hd : d ∈ descriptorTable) {x : Selectors} (hfits : d.fits x = true) :
    scan x = some d.answered := by
  rw [← fits_answered] at hfits
  by_cases hd' : d = ebreakRow
  · subst d
    rw [fits_iff_completed.mp hfits]
    exact scan_completed (List.mem_of_getElem? (i := 47) rfl) (by decide) ..
  · rw [Descriptor.answered, if_neg hd'] at hfits ⊢
    rw [fits_iff_completed.mp hfits]
    exact scan_completed hd hd' ..

/-- R56: two rows that match one word are the same row, or ECALL's and EBREAK's. -/
theorem answered_eq_of_fits {d e : Descriptor} (hd : d ∈ descriptorTable) (he : e ∈ descriptorTable) {x : Selectors}
    (hdfits : d.fits x = true) (hefits : e.fits x = true) : d.answered = e.answered :=
  Option.some.inj ((scan_of_fits hd hdfits).symm.trans (scan_of_fits he hefits))

theorem answered_eq_iff {d e : Descriptor} :
    d.answered = e.answered ↔ d = e ∨ (d = ecallRow ∧ e = ebreakRow) ∨ (d = ebreakRow ∧ e = ecallRow) := by
  unfold Descriptor.answered
  split <;> split <;> grind

theorem scan_isSome_iff {x : Selectors} : (scan x).isSome = true ↔ ∃ d ∈ descriptorTable, d.fits x = true := by
  simp [scan]

/-- R13: the rows stand in the order of their operations' codes. -/
theorem code_of_getElem? {i : Nat} {d : Descriptor} (h : descriptorTable[i]? = some d) : d.op.code.toNat = i := by
  have hcodes : descriptorTable.map (fun e => e.op.code.toNat) = List.range 55 := by decide
  have hi : (List.range 55)[i]? = some d.op.code.toNat := by rw [← hcodes, List.getElem?_map, h, Option.map_some]
  obtain ⟨_, hcode⟩ := List.getElem?_eq_some_iff.mp hi
  rw [← hcode, List.getElem_range]

/-- Settles O42: the scan is `List.find?`. -/
theorem lookupIsTheFirstMatch : Obligations.LookupIsTheFirstMatch := by
  refine ⟨fun w d => ?_, fun w => scan_none⟩
  rw [lookup, scan, List.find?_eq_some_iff_getElem]
  constructor
  · rintro ⟨hfits, i, hi, rfl, hleast⟩
    exact ⟨i, by simp, hfits, fun j hj e he => by
      obtain ⟨hj', rfl⟩ := List.getElem?_eq_some_iff.mp he
      simpa using hleast j hj⟩
  · rintro ⟨i, hd, hfits, hleast⟩
    obtain ⟨hi, rfl⟩ := List.getElem?_eq_some_iff.mp hd
    exact ⟨hfits, i, hi, rfl, fun j hj => by simpa using hleast j hj _ (List.getElem?_eq_getElem _)⟩

end Sys2Proof

namespace Sys2Proof.Machine

/-- Settles O3: the two branches of the step. -/
theorem stepRunsDecodedInstruction : Obligations.StepRunsDecodedInstruction :=
  ⟨fun _ _ => step_of_decodeWord_some, fun _ => step_of_decodeWord_none⟩

theorem decode_eq_none_iff {c : Config} {w : Word} : decode c w = none ↔ lookup w = none := by
  cases h : lookup w <;> simp [decode, h]

@[simp] theorem portsOf_valid (r : Option Instruction) : (portsOf r).valid = r.isSome := by
  cases r <;> rfl

theorem ports_valid_eq_false_iff (s : State) : s.ports.valid = false ↔ s.outputs = none := by
  simp [State.ports]

/-- Settles O38: the step observes the outputs, which are absent where the scan finds nothing. -/
theorem absentExactlyWhenNoDescriptorMatches : Obligations.AbsentExactlyWhenNoDescriptorMatches := by
  intro s t h
  obtain rfl := step_eq_next_iff.mp h
  rw [observe_observed, observe_ports, Observation.result.injEq, ports_valid_eq_false_iff]
  exact ⟨decode_eq_none_iff.trans scan_none, Iff.rfl, Iff.rfl⟩

/-- R161: the record is told by the word, and not by which of the two rows matched. -/
theorem extract_answered (c : Config) (d : Descriptor) (w : Word) : extract c d.answered w = extract c d w := by
  obtain h | ⟨rfl, h⟩ := answered_eq_or d <;> rw [h]
  rfl

/-- R56: any matching row gives the result, whichever the scan finds first. -/
theorem decode_of_fits {d : Descriptor} (hd : d ∈ descriptorTable) {w : Word} (hfits : d.fits (selectorsOf w) = true)
    (c : Config) : decode c w = some (extract c d w) := by
  rw [decode_of_lookup_some (scan_of_fits hd hfits), extract_answered]

/-- R56: the result is the same for every reordering of the table. -/
theorem find?_extract_of_perm {table : List Descriptor} (h : table.Perm descriptorTable) (c : Config) (w : Word) :
    (table.find? (fun d => d.fits (selectorsOf w))).map (fun d => extract c d w) = decode c w := by
  cases hfind : table.find? (fun d => d.fits (selectorsOf w)) with
  | none =>
    refine (decode_eq_none_iff.mpr (scan_none.mpr fun d hd => ?_)).symm
    simpa using List.find?_eq_none.mp hfind d (h.mem_iff.mpr hd)
  | some d =>
    have hd : d ∈ descriptorTable := h.mem_iff.mp (List.mem_of_find?_eq_some hfind)
    have hfits : d.fits (selectorsOf w) = true := by simpa using List.find?_some hfind
    exact (decode_of_fits hd hfits c).symm

/-- Settles O32: at most one row matches, but for ECALL's and EBREAK's, from which the same record is extracted. -/
theorem declarationOrderIsUnobservable : Obligations.DeclarationOrderIsUnobservable := by
  refine ⟨fun w => ⟨fun i j d e hi hj hd he => ?_, fun d e hd he => ?_⟩, fun _ => find?_extract_of_perm⟩
  · have hsame := answered_eq_of_fits (List.mem_of_getElem? hi) (List.mem_of_getElem? hj) hd he
    rw [← code_of_getElem? hi, ← code_of_getElem? hj]
    obtain rfl | ⟨rfl, rfl⟩ | ⟨rfl, rfl⟩ := answered_eq_iff.mp hsame
    · exact .inl rfl
    · exact .inr (.inl ⟨rfl, rfl⟩)
    · exact .inr (.inr ⟨rfl, rfl⟩)
  · obtain rfl := Option.some.inj hd
    obtain rfl := Option.some.inj he
    rfl

end Sys2Proof.Machine

namespace Sys2Proof

/-! ### The fields of the packed words (30_encoding.md R42 to R49) -/

@[simp] theorem packR_fields (f7 : BitVec 7) (rs2 rs1 : Slot) (f3 : BitVec 3) (rd : Slot) (op : BitVec 7) :
    funct7Of (packR f7 rs2 rs1 f3 rd op) = f7 ∧ rs2Slot (packR f7 rs2 rs1 f3 rd op) = rs2 ∧
      rs1Slot (packR f7 rs2 rs1 f3 rd op) = rs1 ∧ rdSlot (packR f7 rs2 rs1 f3 rd op) = rd := by
  refine ⟨congrArg Selectors.funct7 (selectors_packR ..), ?_, ?_, ?_⟩ <;> apply BitVec.eq_of_toNat_eq
  · rw [toNat_rs2Slot, toNat_packR]; omega
  · rw [toNat_rs1Slot, toNat_packR]; omega
  · rw [toNat_rdSlot, toNat_packR]; omega

@[simp] theorem packI_fields (imm : BitVec 12) (rs1 : Slot) (f3 : BitVec 3) (rd : Slot) (op : BitVec 7) :
    upper12 (packI imm rs1 f3 rd op) = imm ∧ rs1Slot (packI imm rs1 f3 rd op) = rs1 ∧
      rdSlot (packI imm rs1 f3 rd op) = rd := by
  refine ⟨?_, ?_, ?_⟩ <;> apply BitVec.eq_of_toNat_eq
  · rw [toNat_upper12, toNat_packI]; omega
  · rw [toNat_rs1Slot, toNat_packI]; omega
  · rw [toNat_rdSlot, toNat_packI]; omega

@[simp] theorem packU_fields (imm : BitVec 20) (rd : Slot) (op : BitVec 7) :
    upper20 (packU imm rd op) = imm ∧ rdSlot (packU imm rd op) = rd := by
  constructor <;> apply BitVec.eq_of_toNat_eq
  · rw [toNat_upper20, toNat_packU]; omega
  · rw [toNat_rdSlot, toNat_packU]; omega

@[simp] theorem packFence_fields (fm : BitVec 4) (flags : BitVec 8) (rs1 : Slot) (f3 : BitVec 3) (rd : Slot) :
    fmField (packFence fm flags rs1 f3 rd) = fm ∧ fenceField (packFence fm flags rs1 f3 rd) = flags ∧
      rs1Slot (packFence fm flags rs1 f3 rd) = rs1 ∧ rdSlot (packFence fm flags rs1 f3 rd) = rd := by
  refine ⟨?_, ?_, ?_, ?_⟩ <;> apply BitVec.eq_of_toNat_eq
  · rw [toNat_fmField, toNat_packFence]; omega
  · rw [toNat_fenceField, toNat_packFence]; omega
  · rw [toNat_rs1Slot, toNat_packFence]; omega
  · rw [toNat_rdSlot, toNat_packFence]; omega

/-! ### A word is packed from its own fields -/

theorem packR_of_fields (w : Word) :
    packR (funct7Of w) (rs2Slot w) (rs1Slot w) (funct3Of w) (rdSlot w) (opcodeOf w) = w := by
  apply BitVec.eq_of_toNat_eq
  rw [toNat_packR, toNat_funct7Of, toNat_rs2Slot, toNat_rs1Slot, toNat_funct3Of, toNat_rdSlot, toNat_opcodeOf]
  omega

theorem packI_of_fields (w : Word) : packI (upper12 w) (rs1Slot w) (funct3Of w) (rdSlot w) (opcodeOf w) = w := by
  apply BitVec.eq_of_toNat_eq
  rw [toNat_packI, toNat_upper12, toNat_rs1Slot, toNat_funct3Of, toNat_rdSlot, toNat_opcodeOf]
  omega

theorem packU_of_fields (w : Word) : packU (upper20 w) (rdSlot w) (opcodeOf w) = w := by
  apply BitVec.eq_of_toNat_eq
  rw [toNat_packU, toNat_upper20, toNat_rdSlot, toNat_opcodeOf]
  omega

theorem upper12_eq_fence_fields (w : Word) : upper12 w = fmField w ++ fenceField w := by
  apply BitVec.eq_of_toNat_eq
  rw [toNat_beside, toNat_upper12, toNat_fmField, toNat_fenceField]
  omega

/-- R181: a fence is packed as an I-format word whose twelve upper bits are the ignored four and the flags. -/
theorem packFence_eq_packI (fm : BitVec 4) (flags : BitVec 8) (rs1 : Slot) (f3 : BitVec 3) (rd : Slot) :
    packFence fm flags rs1 f3 rd = packI (fm ++ flags) rs1 f3 rd 0b0001111 := by
  apply BitVec.eq_of_toNat_eq
  rw [toNat_packFence, toNat_packI, toNat_beside]
  have h : (0b0001111 : BitVec 7).toNat = 15 := rfl
  omega

/-- R181: the same for a word of the fence opcode, packed from the bits its extractor ignores too. -/
theorem packFence_of_fields {w : Word} (h : opcodeOf w = 0b0001111) :
    packFence (fmField w) (fenceField w) (rs1Slot w) (funct3Of w) (rdSlot w) = w := by
  rw [packFence_eq_packI, ← upper12_eq_fence_fields, ← h, packI_of_fields]

/-! ### The immediates cut in pieces

An S or SB word is an R word whose funct7 and rd slots hold the immediate, and a UJ word a U word with its immediate in
another order: reordering the pieces concerns those slots alone. -/

/-- R131: the two slots of an S immediate. -/
theorem packS_eq_packR (imm : BitVec 12) (rs2 rs1 : Slot) (f3 : BitVec 3) (op : BitVec 7) :
    packS imm rs2 rs1 f3 op = packR (imm.extractLsb 11 5) rs2 rs1 f3 (imm.extractLsb 4 0) op := rfl

theorem storeField_eq (w : Word) : storeField w = funct7Of w ++ rdSlot w := rfl

@[simp] theorem packS_fields (imm : BitVec 12) (rs2 rs1 : Slot) (f3 : BitVec 3) (op : BitVec 7) :
    storeField (packS imm rs2 rs1 f3 op) = imm ∧ rs2Slot (packS imm rs2 rs1 f3 op) = rs2 ∧
      rs1Slot (packS imm rs2 rs1 f3 op) = rs1 := by
  simp only [storeField_eq, packS_eq_packR, packR_fields, and_true]
  apply BitVec.eq_of_toNat_eq
  rw [toNat_beside, BitVec.extractLsb_toNat, BitVec.extractLsb_toNat, Nat.shiftRight_eq_div_pow, Nat.shiftRight_zero]
  omega

/-- R142: what the funct7 slot of a branch holds, immediate[12] and immediate[10:5]. -/
def branchHigh (offset : BitVec 12) : BitVec 7 :=
  (offset.extractLsb 11 11 : BitVec 1) ++ (offset.extractLsb 9 4 : BitVec 6)

/-- R142: what the rd slot of a branch holds, immediate[4:1] and immediate[11]. -/
def branchLow (offset : BitVec 12) : Slot := (offset.extractLsb 3 0 : BitVec 4) ++ (offset.extractLsb 10 10 : BitVec 1)

theorem toNat_branchHigh (offset : BitVec 12) :
    (branchHigh offset).toNat = offset.toNat / 2048 * 64 + offset.toNat / 16 % 64 := by
  refine (toNat_beside (m := 1) (n := 6) _ _).trans ?_
  simp only [BitVec.extractLsb_toNat, Nat.shiftRight_eq_div_pow, Nat.reducePow, Nat.reduceSub, Nat.reduceAdd]
  omega

theorem toNat_branchLow (offset : BitVec 12) :
    (branchLow offset).toNat = offset.toNat % 16 * 2 + offset.toNat / 1024 % 2 := by
  refine (toNat_beside (m := 4) (n := 1) _ _).trans ?_
  simp [BitVec.extractLsb_toNat, Nat.shiftRight_eq_div_pow]

theorem packSB_eq_packR (offset : BitVec 12) (rs2 rs1 : Slot) (f3 : BitVec 3) (op : BitVec 7) :
    packSB offset rs2 rs1 f3 op = packR (branchHigh offset) rs2 rs1 f3 (branchLow offset) op := by
  apply BitVec.eq_of_toNat_eq
  rw [toNat_packSB, toNat_packR, toNat_branchHigh, toNat_branchLow]
  omega

theorem toNat_branchField_eq (w : Word) :
    (branchField w).toNat = (funct7Of w).toNat / 64 * 2048 + (rdSlot w).toNat % 2 * 1024 +
      (funct7Of w).toNat % 64 * 16 + (rdSlot w).toNat / 2 := by
  rw [toNat_branchField, toNat_funct7Of, toNat_rdSlot]
  omega

@[simp] theorem packSB_fields (offset : BitVec 12) (rs2 rs1 : Slot) (f3 : BitVec 3) (op : BitVec 7) :
    branchField (packSB offset rs2 rs1 f3 op) = offset ∧ rs2Slot (packSB offset rs2 rs1 f3 op) = rs2 ∧
      rs1Slot (packSB offset rs2 rs1 f3 op) = rs1 := by
  rw [packSB_eq_packR]
  refine ⟨BitVec.eq_of_toNat_eq ?_, by simp, by simp⟩
  simp only [toNat_branchField_eq, packR_fields, toNat_branchHigh, toNat_branchLow]
  have hhigh : (offset.toNat / 2048 * 64 + offset.toNat / 16 % 64) / 64 = offset.toNat / 2048 := by omega
  have hlow : (offset.toNat % 16 * 2 + offset.toNat / 1024 % 2) / 2 = offset.toNat % 16 := by omega
  omega

/-- The four pieces of a branch field are its digits. -/
theorem branch_digits {a b c d : Nat} (hb : b < 2) (hc : c < 64) (hd : d < 16) :
    (a * 2048 + b * 1024 + c * 16 + d) / 2048 = a ∧ (a * 2048 + b * 1024 + c * 16 + d) / 1024 % 2 = b ∧
      (a * 2048 + b * 1024 + c * 16 + d) / 16 % 64 = c ∧ (a * 2048 + b * 1024 + c * 16 + d) % 16 = d := by
  omega

theorem branch_slots_of_field (w : Word) :
    branchHigh (branchField w) = funct7Of w ∧ branchLow (branchField w) = rdSlot w := by
  obtain ⟨ha, hb, hc, hd⟩ := branch_digits (a := (funct7Of w).toNat / 64) (b := (rdSlot w).toNat % 2)
    (c := (funct7Of w).toNat % 64) (d := (rdSlot w).toNat / 2) (by omega) (by omega) (by omega)
  constructor <;> apply BitVec.eq_of_toNat_eq
  · rw [toNat_branchHigh, toNat_branchField_eq, ha, hc, Nat.div_add_mod']
  · rw [toNat_branchLow, toNat_branchField_eq, hb, hd, Nat.div_add_mod']

theorem packSB_of_fields (w : Word) :
    packSB (branchField w) (rs2Slot w) (rs1Slot w) (funct3Of w) (opcodeOf w) = w := by
  obtain ⟨hhigh, hlow⟩ := branch_slots_of_field w
  rw [packSB_eq_packR, hhigh, hlow, packR_of_fields]

theorem packS_of_fields (w : Word) :
    packS (storeField w) (rs2Slot w) (rs1Slot w) (funct3Of w) (opcodeOf w) = w := by
  have hhigh : (storeField w).extractLsb 11 5 = funct7Of w := by
    apply BitVec.eq_of_toNat_eq
    rw [BitVec.extractLsb_toNat, storeField_eq, toNat_beside, Nat.shiftRight_eq_div_pow]
    omega
  have hlow : (storeField w).extractLsb 4 0 = rdSlot w := by
    apply BitVec.eq_of_toNat_eq
    rw [BitVec.extractLsb_toNat, storeField_eq, toNat_beside, Nat.shiftRight_zero]
    omega
  rw [packS_eq_packR, hhigh, hlow, packR_of_fields]

/-- R156: the twenty upper bits of a jump, immediate[20], immediate[10:1], immediate[11], immediate[19:12]. -/
def jumpUpper (offset : BitVec 20) : BitVec 20 :=
  (offset.extractLsb 19 19 : BitVec 1) ++ (offset.extractLsb 9 0 : BitVec 10) ++ (offset.extractLsb 10 10 : BitVec 1) ++
    (offset.extractLsb 18 11 : BitVec 8)

theorem toNat_jumpUpper (offset : BitVec 20) :
    (jumpUpper offset).toNat = offset.toNat / 524288 * 524288 + offset.toNat % 1024 * 512 +
      offset.toNat / 1024 % 2 * 256 + offset.toNat / 2048 % 256 := by
  refine (toNat_beside (m := 1 + 10 + 1) (n := 8) _ _).trans ?_
  rw [toNat_beside (m := 1 + 10) (n := 1), toNat_beside (m := 1) (n := 10)]
  simp only [BitVec.extractLsb_toNat, Nat.shiftRight_eq_div_pow, Nat.reducePow, Nat.reduceSub, Nat.reduceAdd]
  omega

theorem packUJ_eq_packU (offset : BitVec 20) (rd : Slot) (op : BitVec 7) :
    packUJ offset rd op = packU (jumpUpper offset) rd op := rfl

theorem toNat_jumpField_eq (w : Word) :
    (jumpField w).toNat = (upper20 w).toNat / 524288 * 524288 + (upper20 w).toNat % 256 * 2048 +
      (upper20 w).toNat / 256 % 2 * 1024 + (upper20 w).toNat / 512 % 1024 := by
  rw [toNat_jumpField, toNat_upper20]
  omega

/-- The four pieces of a jump field are its digits, in the order of the immediate and in that of the word. -/
theorem jump_digits {a b c d : Nat} (hb : b < 256) (hc : c < 2) (hd : d < 1024) :
    (a * 524288 + b * 2048 + c * 1024 + d) / 524288 = a ∧ (a * 524288 + b * 2048 + c * 1024 + d) / 2048 % 256 = b ∧
      (a * 524288 + b * 2048 + c * 1024 + d) / 1024 % 2 = c ∧ (a * 524288 + b * 2048 + c * 1024 + d) % 1024 = d := by
  omega

theorem jumpUpper_digits {a b c d : Nat} (hb : b < 256) (hc : c < 2) (hd : d < 1024) :
    (a * 524288 + d * 512 + c * 256 + b) / 524288 = a ∧ (a * 524288 + d * 512 + c * 256 + b) % 256 = b ∧
      (a * 524288 + d * 512 + c * 256 + b) / 256 % 2 = c ∧ (a * 524288 + d * 512 + c * 256 + b) / 512 % 1024 = d := by
  omega

@[simp] theorem packUJ_fields (offset : BitVec 20) (rd : Slot) (op : BitVec 7) :
    jumpField (packUJ offset rd op) = offset ∧ rdSlot (packUJ offset rd op) = rd := by
  obtain ⟨ha, hb, hc, hd⟩ := jumpUpper_digits (a := offset.toNat / 524288) (b := offset.toNat / 2048 % 256)
    (c := offset.toNat / 1024 % 2) (d := offset.toNat % 1024) (by omega) (by omega) (by omega)
  rw [packUJ_eq_packU]
  refine ⟨BitVec.eq_of_toNat_eq ?_, by simp⟩
  rw [toNat_jumpField_eq, (packU_fields ..).1, toNat_jumpUpper, ha, hb, hc, hd]
  have hc' : offset.toNat / 1024 / 2 = offset.toNat / 2048 := Nat.div_div_eq_div_mul ..
  have hb' : offset.toNat / 2048 / 256 = offset.toNat / 524288 := Nat.div_div_eq_div_mul ..
  omega

theorem jumpUpper_jumpField (w : Word) : jumpUpper (jumpField w) = upper20 w := by
  obtain ⟨ha, hb, hc, hd⟩ := jump_digits (a := (upper20 w).toNat / 524288) (b := (upper20 w).toNat % 256)
    (c := (upper20 w).toNat / 256 % 2) (d := (upper20 w).toNat / 512 % 1024) (by omega) (by omega) (by omega)
  apply BitVec.eq_of_toNat_eq
  rw [toNat_jumpUpper, toNat_jumpField_eq, ha, hb, hc, hd]
  omega

theorem packUJ_of_fields (w : Word) : packUJ (jumpField w) (rdSlot w) (opcodeOf w) = w := by
  rw [packUJ_eq_packU, jumpUpper_jumpField, packU_of_fields]

/-! ### Decode of encode (30_encoding.md R41, R42, R52) -/

/-- R52: every encoding matches the row of its operation. -/
theorem exists_row (i : Instr) : ∃ d ∈ descriptorTable, d.op = i.op ∧ d.fits (selectorsOf (encode i)) = true := by
  open Laws.MatchesItsRow in
  cases i
  exacts [add .., sub .., sll .., slt .., sltu .., xor .., srl .., sra .., or .., and .., slli .., srli .., srai ..,
    mul .., mulh .., mulhsu .., mulhu .., div .., divu .., rem .., remu .., addi .., slti .., sltiu .., xori .., ori ..,
    andi .., lb .., lh .., lw .., lbu .., lhu .., jalr .., fence .., fenceI .., sb .., sh .., sw .., beq .., bne ..,
    blt .., bge .., bltu .., bgeu .., lui .., auipc .., jal .., ecall .., ebreak .., csrrw .., csrrs .., csrrc ..,
    csrrwi .., csrrsi .., csrrci ..]

/-- R161: the rows of ECALL and EBREAK build one instruction of a word. -/
theorem instrOf_answered (d : Descriptor) (w : Word) : instrOf d.answered.op w = instrOf d.op w := by
  obtain h | ⟨rfl, h⟩ := answered_eq_or d <;> rw [h]
  rfl

theorem decodeWord_of_fits {d : Descriptor} (hd : d ∈ descriptorTable) {w : Word}
    (hfits : d.fits (selectorsOf w) = true) : decodeWord w = instrOf d.op w := by
  rw [Machine.decodeWord_of_lookup_some (scan_of_fits hd hfits), instrOf_answered]

theorem decodeWord_encode (i : Instr) : decodeWord (encode i) = instrOf i.op (encode i) := by
  obtain ⟨d, hd, hop, hfits⟩ := exists_row i
  rw [decodeWord_of_fits hd hfits, hop]

/-- The fields of the encoding are the operands: the register slots name the registers, the others are as packed. -/
theorem instrOf_encode {i : Instr} (h : i.WellFormed) : instrOf i.op (encode i) = some i := by
  simp only [Instr.WellFormed] at h
  cases i
  case ecall => simp [instrOf, Instr.op, encode, environmentInstr]
  case ebreak code _ _ =>
    have hcode : code ≠ 0#12 := by simpa [Instr.wellFormed] using h
    simp [instrOf, Instr.op, encode, environmentInstr, hcode]
  all_goals
    simp only [Instr.wellFormed, Bool.and_eq_true] at h
    simp [instrOf, Instr.op, encode, rdOf, rs1Of, rs2Of, ofSlot_slot, h]

/-- Settles O30: the encoding decodes by the row of its operation, to the fields that were packed. -/
theorem decodeOfEncodeIsIdentity : Obligations.DecodeOfEncodeIsIdentity :=
  fun i h => (decodeWord_encode i).trans (instrOf_encode h)

/-! ### Encode of decode (30_encoding.md R42, R52, R59) -/

/-- On the words this row matches, the instruction its operation builds is well formed and encodes to the word. -/
def EncodesBack (d : Descriptor) : Prop :=
  ∀ (w : Word) (i : Instr), d.fits (selectorsOf w) = true → instrOf d.op w = some i → i.WellFormed ∧ encode i = w

section
variable (w : Word)
@[simp] theorem slot_rdOf : (rdOf w).slot = rdSlot w := slot_ofSlot _
@[simp] theorem slot_rs1Of : (rs1Of w).slot = rs1Slot w := slot_ofSlot _
@[simp] theorem slot_rs2Of : (rs2Of w).slot = rs2Slot w := slot_ofSlot _
end

section
variable {d : Descriptor} {w : Word} (hfits : d.fits (selectorsOf w) = true) {rd rs1 rs2 : Slot}
include hfits

/-- R51: what a match says of the selectors of the word. -/
theorem selectors_of_fits :
    opcodeOf w = d.opcode ∧ (d.format ≠ .u → d.format ≠ .uj → funct3Of w = d.funct3) ∧
      (d.format = .r → funct7Of w = d.funct7) :=
  fits_iff.mp hfits

/-! A word that a row matches is packed from the row's selectors and the word's other fields. -/

theorem packR_of_fits (hf : d.format = .r) (hrs2 : rs2 = rs2Slot w) (hrs1 : rs1 = rs1Slot w) (hrd : rd = rdSlot w) :
    packR d.funct7 rs2 rs1 d.funct3 rd d.opcode = w := by
  obtain ⟨ho, h3, h7⟩ := selectors_of_fits hfits
  rw [hrs2, hrs1, hrd, ← ho, ← h3 (by simp [hf]) (by simp [hf]), ← h7 hf, packR_of_fields]

theorem packI_of_fits (hu : d.format ≠ .u) (huj : d.format ≠ .uj) (hrs1 : rs1 = rs1Slot w) (hrd : rd = rdSlot w) :
    packI (upper12 w) rs1 d.funct3 rd d.opcode = w := by
  obtain ⟨ho, h3, -⟩ := selectors_of_fits hfits
  rw [hrs1, hrd, ← ho, ← h3 hu huj, packI_of_fields]

theorem packFence_of_fits {f3 : BitVec 3} (hu : d.format ≠ .u) (huj : d.format ≠ .uj) (hop : d.opcode = 0b0001111)
    (hf3 : f3 = d.funct3) : packFence (fmField w) (fenceField w) (rs1Slot w) f3 (rdSlot w) = w := by
  obtain ⟨ho, h3, -⟩ := selectors_of_fits hfits
  rw [hf3, ← h3 hu huj, packFence_of_fields (ho.trans hop)]

theorem packS_of_fits (hf : d.format = .s) (hrs2 : rs2 = rs2Slot w) (hrs1 : rs1 = rs1Slot w) :
    packS (storeField w) rs2 rs1 d.funct3 d.opcode = w := by
  obtain ⟨ho, h3, -⟩ := selectors_of_fits hfits
  rw [hrs2, hrs1, ← ho, ← h3 (by simp [hf]) (by simp [hf]), packS_of_fields]

theorem packSB_of_fits (hf : d.format = .sb) (hrs2 : rs2 = rs2Slot w) (hrs1 : rs1 = rs1Slot w) :
    packSB (branchField w) rs2 rs1 d.funct3 d.opcode = w := by
  obtain ⟨ho, h3, -⟩ := selectors_of_fits hfits
  rw [hrs2, hrs1, ← ho, ← h3 (by simp [hf]) (by simp [hf]), packSB_of_fields]

theorem packU_of_fits (hrd : rd = rdSlot w) : packU (upper20 w) rd d.opcode = w := by
  rw [hrd, ← (selectors_of_fits hfits).1, packU_of_fields]

theorem packUJ_of_fits (hrd : rd = rdSlot w) : packUJ (jumpField w) rd d.opcode = w := by
  rw [hrd, ← (selectors_of_fits hfits).1, packUJ_of_fields]

end

theorem encodesBack_of_mem_register {d : Descriptor} (h : d ∈ tableRegister ∨ d ∈ tableMultiplyDivide) :
    EncodesBack d := by
  intro w i hfits hi
  obtain h | h := h <;> fin_cases h
  all_goals
    obtain rfl := Option.some.inj hi
    exact ⟨by simp [Instr.WellFormed, Instr.wellFormed],
      packR_of_fits hfits rfl (slot_rs2Of w) (slot_rs1Of w) (slot_rdOf w)⟩

theorem encodesBack_of_mem_tableShiftImmediate {d : Descriptor} (h : d ∈ tableShiftImmediate) : EncodesBack d := by
  intro w i hfits hi
  fin_cases h
  all_goals
    obtain rfl := Option.some.inj hi
    exact ⟨by simp [Instr.WellFormed, Instr.wellFormed], packR_of_fits hfits rfl rfl (slot_rs1Of w) (slot_rdOf w)⟩

theorem encodesBack_of_mem_tableImmediate {d : Descriptor} (h : d ∈ tableImmediate) : EncodesBack d := by
  intro w i hfits hi
  fin_cases h
  all_goals
    obtain rfl := Option.some.inj hi
    exact ⟨by simp [Instr.WellFormed, Instr.wellFormed],
      packI_of_fits hfits (by decide) (by decide) (slot_rs1Of w) (slot_rdOf w)⟩

theorem encodesBack_of_mem_tableLoadJumpFence {d : Descriptor} (h : d ∈ tableLoadJumpFence) : EncodesBack d := by
  intro w i hfits hi
  fin_cases h
  all_goals
    obtain rfl := Option.some.inj hi
    refine ⟨by simp [Instr.WellFormed, Instr.wellFormed], ?_⟩
  -- the loads and JALR, then the two fences
  iterate 6 · exact packI_of_fits hfits (by decide) (by decide) (slot_rs1Of w) (slot_rdOf w)
  all_goals exact packFence_of_fits hfits (by decide) (by decide) rfl rfl

theorem encodesBack_of_mem_tableStoreBranch {d : Descriptor} (h : d ∈ tableStoreBranch) : EncodesBack d := by
  intro w i hfits hi
  fin_cases h
  all_goals
    obtain rfl := Option.some.inj hi
    refine ⟨by simp [Instr.WellFormed, Instr.wellFormed], ?_⟩
  -- the stores, then the branches
  iterate 3 · exact packS_of_fits hfits rfl (slot_rs2Of w) (slot_rs1Of w)
  all_goals exact packSB_of_fits hfits rfl (slot_rs2Of w) (slot_rs1Of w)

theorem encodesBack_of_mem_tableUpperJump {d : Descriptor} (h : d ∈ tableUpperJump) : EncodesBack d := by
  intro w i hfits hi
  fin_cases h <;> obtain rfl := Option.some.inj hi
  -- LUI and AUIPC, then JAL
  iterate 2 · exact ⟨named_rdOf w, packU_of_fits hfits (slot_rdOf w)⟩
  exact ⟨named_rdOf w, packUJ_of_fits hfits (slot_rdOf w)⟩

/-- R161: either operation of the shared shape encodes the twelve bits it was told by. -/
theorem encode_environmentInstr (w : Word) :
    encode (environmentInstr w) = packI (upper12 w) (rs1Slot w) 0b000 (rdSlot w) 0b1110011 := by
  unfold environmentInstr
  split
  case isTrue h => rw [h, encode]
  case isFalse => rw [encode]

theorem wellFormed_environmentInstr (w : Word) : (environmentInstr w).WellFormed := by
  unfold environmentInstr
  split
  case isTrue => rfl
  case isFalse h => simpa [Instr.WellFormed, Instr.wellFormed] using h

theorem encodesBack_of_mem_tableSpecial {d : Descriptor} (h : d ∈ tableSpecial) : EncodesBack d := by
  intro w i hfits hi
  fin_cases h <;> obtain rfl := Option.some.inj hi
  -- ECALL and EBREAK, the three register forms of CSR access, and the three immediate forms
  iterate 2
    · exact ⟨wellFormed_environmentInstr w,
        (encode_environmentInstr w).trans (packI_of_fits hfits (by decide) (by decide) rfl rfl)⟩
  iterate 3
    · exact ⟨by simp [Instr.WellFormed, Instr.wellFormed],
        packI_of_fits hfits (by decide) (by decide) (slot_rs1Of w) (slot_rdOf w)⟩
  all_goals exact ⟨named_rdOf w, packI_of_fits hfits (by decide) (by decide) rfl (slot_rdOf w)⟩

theorem encodesBack_of_mem {d : Descriptor} (h : d ∈ descriptorTable) : EncodesBack d := by
  simp only [descriptorTable, List.mem_append] at h
  obtain ((((((h | h) | h) | h) | h) | h) | h) | h := h
  · exact encodesBack_of_mem_register (.inl h)
  · exact encodesBack_of_mem_tableShiftImmediate h
  · exact encodesBack_of_mem_register (.inr h)
  · exact encodesBack_of_mem_tableImmediate h
  · exact encodesBack_of_mem_tableLoadJumpFence h
  · exact encodesBack_of_mem_tableStoreBranch h
  · exact encodesBack_of_mem_tableUpperJump h
  · exact encodesBack_of_mem_tableSpecial h

/-- Settles O31: by the row that matched the word. -/
theorem encodeOfDecodeIsIdentity : Obligations.EncodeOfDecodeIsIdentity := by
  intro w i h
  obtain ⟨d, hd, hi⟩ := decodeWord_some h
  obtain ⟨hmem, hfits⟩ := scan_some hd
  exact encodesBack_of_mem hmem w i hfits hi

open Machine Claim

/-! ### The match as a mask (30_encoding.md R51) -/

/-- A mask is applied to the bits above a place and to those below it. -/
theorem land_split {k a : Nat} (n b : Nat) (ha : a < 2 ^ k) :
    n &&& (2 ^ k * b + a) = 2 ^ k * (n / 2 ^ k &&& b) + (n % 2 ^ k &&& a) := by
  rw [← Nat.div_add_mod (n &&& (2 ^ k * b + a)) (2 ^ k), Nat.and_div_two_pow, Nat.and_mod_two_pow,
    Nat.mul_add_div (by positivity), Nat.mul_add_mod, Nat.div_eq_of_lt ha, Nat.mod_eq_of_lt ha, Nat.add_zero]

theorem land_opcode_mask (n : Nat) : n &&& 0x7f = n % 128 := Nat.and_two_pow_sub_one_eq_mod n 7

theorem land_funct3_mask (n : Nat) : n &&& 0x707f = 4096 * (n / 4096 % 8) + n % 128 := by
  rw [show 0x707f = 2 ^ 12 * (2 ^ 3 - 1) + 0x7f from rfl, land_split n _ (by decide), Nat.and_two_pow_sub_one_eq_mod,
    land_opcode_mask]
  omega

theorem land_funct7_mask (n : Nat) :
    n &&& 0xfe00707f = 33554432 * (n / 33554432 % 128) + (4096 * (n / 4096 % 8) + n % 128) := by
  rw [show 0xfe00707f = 2 ^ 25 * 0x7f + 0x707f from rfl, land_split n _ (by decide), land_opcode_mask, land_funct3_mask]
  omega

/-- Settles O41: each mask keeps the selectors that its format compares. -/
theorem matchPredicatesAreMasks : Obligations.MatchPredicatesAreMasks := by
  intro d w whole mask
  have h7 := d.funct7.isLt
  have h3 := d.funct3.isLt
  have ho := d.opcode.isLt
  have hw := w.isLt
  simp only [fits_iff, selectorsOf, ← BitVec.toNat_inj, toNat_opcodeOf, toNat_funct3Of, toNat_funct7Of, mask, whole]
  cases d.format
  all_goals
    simp only [land_opcode_mask, land_funct3_mask, land_funct7_mask, Nat.reducePow, ne_eq, reduceCtorEq,
      not_false_eq_true, not_true_eq_false, forall_const, IsEmpty.forall_iff, and_true]
    omega

/-! ### The recognised selectors (30_encoding.md R58) -/

theorem recognised_completed {d : Descriptor} (hd : d ∈ descriptorTable) (funct3 : BitVec 3) (funct7 : BitVec 7) :
    recognised (d.completed funct3 funct7) = true := by
  fin_cases hd <;> rfl

/-- The list of R58, opcode by opcode, has no selectors but those of some row. -/
theorem scan_isSome_of_recognised {x : Selectors} (h : recognised x = true) : (scan x).isSome = true := by
  obtain ⟨opcode, funct3, funct7⟩ := x
  unfold recognised at h
  split at h
  case h_12 => cases h
  all_goals obtain rfl : opcode = _ := by assumption
  -- the three opcodes of the U and UJ formats, every word of which is recognised
  case h_4 | h_7 | h_10 => rfl
  all_goals
    simp only [List.contains_cons, List.contains_nil, Bool.or_eq_true, Bool.and_eq_true, beq_iff_eq,
      Bool.false_eq_true, or_false] at h
  case h_3 =>
    obtain (rfl | rfl | rfl | rfl | rfl | rfl) | ⟨rfl, rfl⟩ | ⟨rfl, rfl | rfl⟩ := or_assoc.mp h <;> rfl
  case h_6 =>
    obtain rfl | ⟨rfl, rfl | rfl⟩ | rfl := or_assoc.mp h
    · revert funct3; decide
    · rfl
    · rfl
    · revert funct3; decide
  case h_1 => obtain rfl | rfl | rfl | rfl | rfl := h <;> rfl
  case h_2 => obtain rfl | rfl := h <;> rfl
  case h_5 => obtain rfl | rfl | rfl := h <;> rfl
  case h_8 => obtain rfl | rfl | rfl | rfl | rfl | rfl := h <;> rfl
  case h_9 => obtain rfl := h; rfl
  case h_11 => obtain rfl | rfl | rfl | rfl | rfl | rfl | rfl := h <;> rfl

/-- R58: the scan finds a row for the listed selectors and for no others. -/
theorem scan_isSome_iff_recognised {x : Selectors} : (scan x).isSome = true ↔ recognised x = true := by
  refine ⟨fun h => ?_, scan_isSome_of_recognised⟩
  obtain ⟨d, hd, hfits⟩ := scan_isSome_iff.mp h
  rw [fits_iff_completed.mp hfits]
  exact recognised_completed hd ..

theorem isSome_decode (c : Config) (w : Word) : (decode c w).isSome = (scan (selectorsOf w)).isSome := by
  unfold decode lookup
  cases scan (selectorsOf w) <;> rfl

/-- Settles O39: the scan answers on the list of R58 alone, and every row's opcode ends in 0b11. -/
theorem recognisedWordsAreTheListedOnes : Obligations.RecognisedWordsAreTheListedOnes := by
  intro s t h
  obtain rfl := step_eq_next_iff.mp h
  have hpresent :
      (∃ r, (s.observe s.outputs).observed = .result (some r)) ↔ (scan (selectorsOf s.word)).isSome = true := by
    rw [← isSome_decode s.cfg, Option.isSome_iff_exists]
    simp [State.outputs]
  refine ⟨hpresent.trans scan_isSome_iff_recognised, fun hr => ?_⟩
  obtain ⟨d, hd, hfits⟩ := scan_isSome_iff.mp (hpresent.mp hr)
  rw [bits_one_zero, show opcodeOf s.word = d.opcode from opcode_eq_of_fits hfits]
  exact opcode_mod_four d hd

/-! ### The number of recognised selectors (95_test_vectors.md V90) -/

/-- A selector triple as the statement of V90 counts it. -/
def selectorsOfTriple (x : Fin 128 × Fin 8 × Fin 128) : Selectors := ⟨.ofFin x.1, .ofFin x.2.1, .ofFin x.2.2⟩

/-- The triples a row matches. -/
def triplesOf (d : Descriptor) : Finset (Fin 128 × Fin 8 × Fin 128) :=
  Finset.univ.filter (fun x => d.fits (selectorsOfTriple x) = true)

/-- The rows no two of which match one word. -/
def exclusiveRows : Finset Descriptor := descriptorTable.toFinset.erase ebreakRow

theorem mem_exclusiveRows {d : Descriptor} : d ∈ exclusiveRows ↔ d ≠ ebreakRow ∧ d ∈ descriptorTable := by
  simp [exclusiveRows]

/-- R51: every value of a selector that the row's format does not compare. -/
theorem card_triplesOf (d : Descriptor) :
    (triplesOf d).card = (if d.format = .u ∨ d.format = .uj then 8 else 1) * (if d.format = .r then 1 else 128) := by
  have hbox : triplesOf d = {d.opcode.toFin} ×ˢ
      (if d.format = .u ∨ d.format = .uj then Finset.univ else {d.funct3.toFin}) ×ˢ
      (if d.format = .r then {d.funct7.toFin} else Finset.univ) := by
    ext ⟨o, f3, f7⟩
    simp only [triplesOf, selectorsOfTriple, fits_iff, Finset.mem_filter, Finset.mem_product, ← BitVec.toFin_inj]
    cases d.format <;> simp
  rw [hbox]
  cases d.format <;> simp

theorem disjoint_triplesOf : (exclusiveRows : Set Descriptor).PairwiseDisjoint triplesOf := by
  intro d hd e he hne
  obtain ⟨hd', hd⟩ := mem_exclusiveRows.mp hd
  obtain ⟨he', he⟩ := mem_exclusiveRows.mp he
  refine Finset.disjoint_filter.mpr fun x _ hdfits hefits => hne ?_
  simpa [Descriptor.answered, hd', he'] using answered_eq_of_fits hd he hdfits hefits

theorem filter_scan_eq_biUnion :
    Finset.univ.filter (fun x => (scan (selectorsOfTriple x)).isSome = true) = exclusiveRows.biUnion triplesOf := by
  ext x
  simp only [Finset.mem_filter, Finset.mem_univ, true_and, scan_isSome_iff, Finset.mem_biUnion, mem_exclusiveRows,
    triplesOf]
  constructor
  · rintro ⟨d, hd, hfits⟩
    by_cases hne : d = ebreakRow
    · exact ⟨ecallRow, ⟨by decide, List.mem_of_getElem? (i := 47) rfl⟩, by rwa [hne] at hfits⟩
    · exact ⟨d, ⟨hne, hd⟩, hfits⟩
  · rintro ⟨d, ⟨-, hd⟩, hfits⟩
    exact ⟨d, hd, hfits⟩

/-- Settles O40: 21 rows of the R format, 30 that leave funct7 free, and 3 that leave funct3 free as well, are disjoint:
21 + 30 * 128 + 3 * 8 * 128. -/
theorem recognisedTriplesAreCounted : Obligations.RecognisedTriplesAreCounted := by
  refine (congrArg Finset.card filter_scan_eq_biUnion).trans ?_
  rw [Finset.card_biUnion disjoint_triplesOf, Finset.sum_congr rfl fun d _ => card_triplesOf d]
  decide

end Sys2Proof

namespace Sys2Proof.Machine

open Claim

/-! ### The fields of a word as numbers (00_scope.md R6) -/

/-- R6: the bits of a word are a remainder of a quotient. -/
theorem bits_eq (w : Word) (hi lo : Nat) : bits w hi lo = w.toNat / 2 ^ lo % 2 ^ (hi - lo + 1) := by
  rw [bits, Nat.and_two_pow_sub_one_eq_mod, Nat.shiftRight_eq_div_pow]

theorem bits_funct3 (w : Word) : bits w 14 12 = (funct3Of w).toNat :=
  (bits_eq w ..).trans (toNat_funct3Of w).symm

theorem bits_funct7 (w : Word) : bits w 31 25 = (funct7Of w).toNat :=
  (bits_eq w ..).trans (toNat_funct7Of w).symm

theorem bits_rdSlot (w : Word) : bits w 11 7 = (rdSlot w).toNat :=
  (bits_eq w ..).trans (toNat_rdSlot w).symm

theorem bits_upper12 (w : Word) : bits w 31 20 = (upper12 w).toNat :=
  (bits_eq w ..).trans (toNat_upper12 w).symm

theorem bits_fenceField (w : Word) : bits w 27 20 = (fenceField w).toNat :=
  (bits_eq w ..).trans (toNat_fenceField w).symm

theorem bits_upper20 (w : Word) : bits w 31 12 = (upper20 w).toNat :=
  (bits_eq w ..).trans (toNat_upper20 w).symm

/-- R44 to R48: `word[31]` is the top bit of every immediate. -/
theorem bits_sign (w : Word) : bits w 31 31 = w.toNat / 2147483648 := by
  have h := w.isLt
  simp only [bits_eq, Nat.reducePow, Nat.reduceSub, Nat.reduceAdd]
  omega

theorem bits_sign_funct7 (w : Word) : bits w 31 31 = (funct7Of w).toNat / 64 := by
  have h := w.isLt
  have hdiv : w.toNat / 33554432 / 64 = w.toNat / 2147483648 := Nat.div_div_eq_div_mul ..
  rw [bits_sign, toNat_funct7Of]
  omega

/-! ### The immediates as numbers (30_encoding.md R44 to R48) -/

/-- R7: `sext_N` of a field's number is the field's signed value. -/
theorem sextN_toNat {n : Nat} (v : BitVec n) : sextN n v.toNat = sext v := by
  rw [sextN, sext, BitVec.msb_eq_getLsbD_last, BitVec.getLsbD]

/-- Settles O44: the signed value of the twelve bits `word[31:20]`. -/
theorem immediateI : Obligations.ImmediateI := by
  intro w
  have hfield := bits_upper12 w
  have hsign := bits_sign w
  rw [signed12, sext_eq, ← hfield]
  rw [toNat_upper12] at hfield
  have := w.isLt
  omega

/-- Settles O45: the field is funct7 above the rd slot, and its sign bit is funct7's. -/
theorem immediateS : Obligations.ImmediateS := by
  intro w
  have hfield : (storeField w).toNat = bits w 31 25 * 2 ^ 5 + bits w 11 7 := by
    rw [storeField_eq, toNat_beside, bits_funct7, bits_rdSlot]
  obtain ⟨hlow, hhigh⟩ := signed12_range (storeField w)
  rw [← hfield, sextN_toNat]
  refine ⟨rfl, hlow, hhigh, ?_⟩
  rw [signed12, sext_eq, bits_sign_funct7, storeField_eq, toNat_beside]
  omega

theorem rawSB_eq (w : Word) : rawSB w = (branchField w).toNat * 2 := by
  simp only [rawSB, bits_eq, toNat_branchField, Nat.reducePow, Nat.reduceSub, Nat.reduceAdd]
  omega

theorem branchField_ge_iff (w : Word) : 2048 ≤ (branchField w).toNat ↔ bits w 31 31 = 1 := by
  rw [toNat_branchField_eq, bits_sign_funct7]
  omega

/-- Settles O46: the offset is twice the signed value of its twelve bits, whose sign bit is `word[31]`. -/
theorem immediateSB : Obligations.ImmediateSB := by
  intro w
  have hsign := branchField_ge_iff w
  obtain ⟨hlow, hhigh⟩ := branchOffset_range (branchField w)
  have heven := branchOffset_even (branchField w)
  rw [rawSB_eq, Nat.mul_div_cancel _ (by decide), sextN_toNat]
  refine ⟨?_, branchOffset_eq _, hlow, hhigh, heven, ?_⟩
  all_goals
    rw [branchOffset_eq, sext_eq]
    have := (branchField w).isLt
    split <;> omega

/-- Settles O47: the field is read as it stands. -/
theorem immediateU : Obligations.ImmediateU := by
  intro w
  obtain ⟨hlow, hhigh⟩ := upperImmediate_range (upper20 w)
  have hvalue : upperImmediate (upper20 w) = bits w 31 12 := by rw [bits_upper20]; rfl
  refine ⟨hvalue, hlow, hhigh, fun h => ?_, fun h => by subst h; rfl⟩
  rw [hvalue, bits_eq]
  rw [bits_sign] at h
  omega

/-- R46, R48: a 0 below a field doubles it. -/
theorem toNat_append_zero {n : Nat} (v : BitVec n) : (v ++ (0b0 : BitVec 1)).toNat = v.toNat * 2 := toNat_beside v _

/-- R48: the four pieces do not overlap, so that their disjunction is a sum. -/
theorem immUJ_eq (w : Word) : immUJ w = (jumpField w ++ (0b0 : BitVec 1)).toNat := by
  have hmask : w.toNat &&& 0x000ff000 = (w.toNat / 4096 % 256) <<< 12 := by
    rw [show 0x000ff000 = 2 ^ 12 * (2 ^ 8 - 1) + 0 from rfl, land_split _ _ (by decide), Nat.and_two_pow_sub_one_eq_mod,
      Nat.and_zero, Nat.add_zero, Nat.shiftLeft_eq, Nat.mul_comm]
    rfl
  have hlow : bits w 30 21 <<< 1 < 2 ^ 11 := by rw [bits_eq, Nat.shiftLeft_eq]; omega
  have hmid : bits w 20 20 <<< 11 + bits w 30 21 <<< 1 < 2 ^ 12 := by rw [bits_eq, Nat.shiftLeft_eq]; omega
  have hhigh : (w.toNat / 4096 % 256) <<< 12 + (bits w 20 20 <<< 11 + bits w 30 21 <<< 1) < 2 ^ 20 := by
    rw [Nat.shiftLeft_eq]; omega
  rw [immUJ, hmask, Nat.or_assoc, Nat.or_assoc, ← Nat.shiftLeft_add_eq_or_of_lt hlow,
    ← Nat.shiftLeft_add_eq_or_of_lt hmid, ← Nat.shiftLeft_add_eq_or_of_lt hhigh, toNat_append_zero, toNat_jumpField]
  simp only [bits_eq, Nat.shiftLeft_eq, Nat.reducePow, Nat.reduceSub, Nat.reduceAdd]
  omega

theorem jumpField_ge_iff (w : Word) : 524288 ≤ (jumpField w).toNat ↔ bits w 31 31 = 1 := by
  have h := w.isLt
  rw [toNat_jumpField, bits_sign]
  omega

/-- Settles O48: the offset is the number its 21 bits spell, and with `word[31]` set the signed value is 2^21 less. -/
theorem immediateUJ : Obligations.ImmediateUJ := by
  intro w
  obtain ⟨hlow, hhigh⟩ := jumpOffset_range (jumpField w)
  have hvalue : jumpOffset (jumpField w) = immUJ w := by rw [immUJ_eq]; rfl
  refine ⟨hvalue, hlow, hhigh, jumpOffset_even _, fun h => ?_⟩
  have hbit := (jumpField_ge_iff w).mpr h
  rw [immUJ_eq, sextN_toNat (jumpField w ++ (0b0 : BitVec 1)), sext_eq, toNat_append_zero, jumpOffset_eq,
    if_pos (by omega)]
  omega

/-! ### A result classifies its word (30_encoding.md R57) -/

theorem op_injOn {d e : Descriptor} (hd : d ∈ descriptorTable) (he : e ∈ descriptorTable) (h : d.op = e.op) :
    d = e := by
  obtain ⟨i, hi⟩ := List.mem_iff_getElem?.mp hd
  obtain ⟨j, hj⟩ := List.mem_iff_getElem?.mp he
  have hij : i = j := by rw [← code_of_getElem? hi, ← code_of_getElem? hj, h]
  exact Option.some.inj (hi.symm.trans (hij ▸ hj))

/-- R161: ECALL and EBREAK, the two operations told apart after the match. -/
abbrev IsEnvironment (op : Op) : Prop := op = .ecall ∨ op = .ebreak

theorem answered_of_isEnvironment :
    ∀ d ∈ descriptorTable, IsEnvironment d.op → d.answered = ecallRow := by
  decide

/-- R54, R161: the record's operation is the row's, or the one that `word[31:20]` selects. -/
theorem extract_op {d : Descriptor} (hd : d ∈ descriptorTable) (c : Config) (w : Word) :
    (IsEnvironment d.op ∧ (extract c d w).op = if upper12 w = 0 then .ecall else .ebreak) ∨
      (¬ IsEnvironment d.op ∧ (extract c d w).op = d.op) := by
  simp only [descriptorTable, List.mem_append] at hd
  obtain ((((((h | h) | h) | h) | h) | h) | h) | h := hd
  case inr =>
    fin_cases h
    -- ECALL and EBREAK, then CSR access
    iterate 2 · exact .inl ⟨by decide, rfl⟩
    all_goals exact .inr ⟨by decide, rfl⟩
  -- the register operations, then the shift-immediates, whose record depends on the mode
  · fin_cases h <;> exact .inr ⟨by decide, rfl⟩
  · fin_cases h <;> exact .inr ⟨by decide, recordShift_op ..⟩
  all_goals fin_cases h <;> exact .inr ⟨by decide, rfl⟩

theorem decode_eq_some {c : Config} {w : Word} {r : Instruction} (h : decode c w = some r) :
    ∃ d ∈ descriptorTable, d.fits (selectorsOf w) = true ∧ r = extract c d w := by
  cases hd : lookup w with
  | none => rw [decode_of_lookup_none hd] at h; cases h
  | some d =>
    obtain ⟨hmem, hfits⟩ := scan_some hd
    exact ⟨d, hmem, hfits, Option.some.inj (h.symm.trans (decode_of_lookup_some hd c))⟩

/-- R57: the rows of a result's operation match what the row that gave it matches. -/
theorem fits_of_op_eq {d e : Descriptor} (hd : d ∈ descriptorTable) (he : e ∈ descriptorTable) {c : Config}
    {w : Word} (hop : d.op = (extract c e w).op) (x : Selectors) : d.fits x = e.fits x := by
  obtain ⟨henv, hr⟩ | ⟨-, hr⟩ := extract_op he c w
  · have hdenv : IsEnvironment d.op := by
      rw [hop, hr]
      split
      · exact .inl rfl
      · exact .inr rfl
    rw [← fits_answered d, ← fits_answered e, answered_of_isEnvironment d hd hdenv,
      answered_of_isEnvironment e he henv]
  · rw [op_injOn hd he (hop.trans hr)]

theorem exists_row_of_op {d : Descriptor} (hd : d ∈ descriptorTable) (c : Config) (w : Word) :
    ∃ e ∈ descriptorTable, e.op = (extract c d w).op := by
  obtain ⟨-, hr⟩ | ⟨-, hr⟩ := extract_op hd c w
  · rw [hr]
    split
    · exact ⟨ecallRow, List.mem_of_getElem? (i := 47) rfl, rfl⟩
    · exact ⟨ebreakRow, List.mem_of_getElem? (i := 48) rfl, rfl⟩
  · exact ⟨d, hd, hr.symm⟩

/-- R161: which of the two operations the word gives. -/
theorem upper12_of_extract_op {d : Descriptor} (hd : d ∈ descriptorTable) {c : Config} {w : Word} :
    ((extract c d w).op = .ecall → upper12 w = 0) ∧ ((extract c d w).op = .ebreak → upper12 w ≠ 0) := by
  obtain ⟨-, hr⟩ | ⟨henv, hr⟩ := extract_op hd c w
  · rw [hr]
    split
    case isTrue hzero => exact ⟨fun _ => hzero, nofun⟩
    case isFalse hzero => exact ⟨nofun, fun _ => hzero⟩
  · rw [hr]
    exact ⟨fun h => absurd (.inl h) henv, fun h => absurd (.inr h) henv⟩

theorem bits_upper12_eq_zero_iff (w : Word) : bits w 31 20 = 0 ↔ upper12 w = 0 := by
  rw [bits_upper12, ← BitVec.toNat_inj]
  rfl

/-- Settles O43: the rows of the result's operation match the word, as the row that gave it does. -/
theorem resultsClassifyTheirWords : Obligations.ResultsClassifyTheirWords := by
  intro s t r h hr
  obtain rfl := step_eq_next_iff.mp h
  have hout : s.outputs = some r := Observation.result.inj hr
  obtain ⟨e, he, hfits, rfl⟩ := decode_eq_some hout
  obtain ⟨hecall, hebreak⟩ := upper12_of_extract_op he (c := s.cfg) (w := s.word)
  refine ⟨exists_row_of_op he .., fun d hd hop => ?_, ?_, ?_, extractConforms_of_mem he ..⟩
  · rw [← fits_of_op_eq hd he hop] at hfits
    rw [bits_opcode, bits_funct3, bits_funct7]
    simpa only [BitVec.toNat_inj] using selectors_of_fits hfits
  · exact fun hop => (bits_upper12_eq_zero_iff _).mpr (hecall hop)
  · exact fun hop => (bits_upper12_eq_zero_iff _).not.mpr (hebreak hop)

/-! ### The bits that are ignored (30_encoding.md R59) -/

/-- R81: only the opcodes of the R rows are matched by funct7. -/
theorem opcode_of_format_r :
    ∀ d ∈ descriptorTable, d.format = .r → d.opcode = 0b0110011 ∨ d.opcode = 0b0010011 := by
  decide

/-- Beside those opcodes the scan does not see funct7. -/
theorem lookup_congr {w w' : Word} (hop : opcodeOf w = opcodeOf w') (h3 : funct3Of w = funct3Of w')
    (hr : opcodeOf w ≠ 0b0110011 ∧ opcodeOf w ≠ 0b0010011) : lookup w = lookup w' := by
  unfold lookup scan
  refine List.find?_congr fun d hd => Bool.eq_iff_iff.mpr ?_
  simp only [fits_iff, selectorsOf, ← hop, ← h3]
  refine and_congr_right fun ho => and_congr_right fun _ => ?_
  have hformat : d.format ≠ .r := fun hf => by
    obtain h | h := opcode_of_format_r d hd hf
    · exact hr.1 (ho.trans h)
    · exact hr.2 (ho.trans h)
  simp only [hformat, false_imp_iff]

theorem decode_congr {c : Config} {w w' : Word} (hlookup : lookup w = lookup w')
    (hextract : ∀ d ∈ descriptorTable, d.fits (selectorsOf w) = true → extract c d w = extract c d w') :
    decode c w = decode c w' := by
  cases h : lookup w with
  | none => rw [decode_of_lookup_none h, decode_of_lookup_none (hlookup ▸ h)]
  | some d =>
    obtain ⟨hd, hfits⟩ := scan_some h
    rw [decode_of_lookup_some h, decode_of_lookup_some (hlookup ▸ h), hextract d hd hfits]

/-- R59 (a), R180: the fence extractor reads the flags alone. -/
theorem extract_fence_congr {d : Descriptor} (hd : d ∈ descriptorTable) {w w' : Word}
    (hfits : d.fits (selectorsOf w) = true) (hop : opcodeOf w = 0b0001111) (hflags : fenceField w = fenceField w')
    (c : Config) : extract c d w = extract c d w' := by
  have hrow : ∀ e ∈ descriptorTable, e.opcode = 0b0001111 →
      e = row .fence .i 0b0001111 0b000 ∨ e = row .fenceI .i 0b0001111 0b001 := by decide
  obtain rfl | rfl := hrow d hd ((opcode_eq_of_fits hfits).symm.trans hop)
  · exact congrArg (recordFence .fence) hflags
  · exact congrArg (recordFence .fenceI) hflags

/-- R59 (b), R161: the extractor of ECALL and EBREAK reads the upper twelve bits alone. -/
theorem extract_environment_congr {d : Descriptor} (hd : d ∈ descriptorTable) {w w' : Word}
    (hfits : d.fits (selectorsOf w) = true) (hop : opcodeOf w = 0b1110011) (h3 : funct3Of w = 0b000)
    (hcode : upper12 w = upper12 w') (c : Config) : extract c d w = extract c d w' := by
  have hrow : ∀ e ∈ descriptorTable, e.opcode = 0b1110011 →
      (e.format ≠ .u → e.format ≠ .uj → e.funct3 = 0b000) → e = ecallRow ∨ e = ebreakRow := by decide
  obtain ⟨hop', h3', -⟩ := selectors_of_fits hfits
  obtain rfl | rfl := hrow d hd (hop' ▸ hop) (fun hu huj => h3' hu huj ▸ h3)
  all_goals exact congrArg (fun v => recordBare (if v = 0 then .ecall else .ebreak)) hcode

/-- Settles O52: the scan does not see the ignored bits, and neither does the extractor of what it finds. -/
theorem ignoredBitsChangeNothing : Obligations.IgnoredBitsChangeNothing := by
  intro s s' t t' hcfg h h' hop h3 hfields
  obtain rfl := step_eq_next_iff.mp h
  obtain rfl := step_eq_next_iff.mp h'
  simp only [bits_opcode, bits_funct3, bits_fenceField, bits_upper12, BitVec.toNat_inj] at hop h3 hfields
  have hout : decode s.cfg s.word = decode s.cfg s'.word := by
    obtain ⟨hfence, hflags⟩ | ⟨hspecial, hzero, hcode⟩ := hfields
    · have ho : opcodeOf s.word = 0b0001111 := BitVec.eq_of_toNat_eq hfence
      exact decode_congr (lookup_congr hop h3 (by rw [ho]; decide))
        fun d hd hfits => extract_fence_congr hd hfits ho hflags s.cfg
    · have ho : opcodeOf s.word = 0b1110011 := BitVec.eq_of_toNat_eq hspecial
      have hf3 : funct3Of s.word = 0b000 := BitVec.eq_of_toNat_eq hzero
      exact decode_congr (lookup_congr hop h3 (by rw [ho]; decide))
        fun d hd hfits => extract_environment_congr hd hfits ho hf3 hcode s.cfg
  rw [observe_observed, observe_observed, State.outputs, State.outputs, ← hcfg, hout]

end Sys2Proof.Machine

namespace Sys2Proof

open Machine Claim

/-! ### A row's match as the mask and value of its rule (30_encoding.md R51, R52) -/

/-- R51: the bits that the row's format compares. -/
def Descriptor.mask (d : Descriptor) : Word :=
  match d.format with
  | .r => 0xfe00707f
  | .i | .s | .special | .sb => 0x0000707f
  | .u | .uj => 0x0000007f

/-- R51: what those bits are in the words that the row matches. -/
def Descriptor.value (d : Descriptor) : Word := packR d.funct7 0 0 d.funct3 0 d.opcode &&& d.mask

theorem fits_iff_masked (d : Descriptor) (w : Word) : d.fits (selectorsOf w) = true ↔ masked d.mask d.value w := by
  have hwhole : (packR d.funct7 0 0 d.funct3 0 d.opcode).toNat =
      d.funct7.toNat * 2 ^ 25 + d.funct3.toNat * 2 ^ 12 + d.opcode.toNat := by
    simp [toNat_packR]
  refine (matchPredicatesAreMasks d w).trans ?_
  rw [masked, Descriptor.value, ← BitVec.toNat_inj, BitVec.toNat_and, BitVec.toNat_and, hwhole, Descriptor.mask]
  cases d.format <;> exact Iff.rfl

/-- A row stands within a mask and value that compare no other bits than it does, and ask the same of them. -/
def Descriptor.Within (d : Descriptor) (p : Word × Word) : Prop := d.mask &&& p.1 = p.1 ∧ d.value &&& p.1 = p.2

theorem masked_of_within {d : Descriptor} {p : Word × Word} (h : d.Within p) {w : Word}
    (hw : masked d.mask d.value w) : masked p.1 p.2 w := by
  obtain ⟨hmask, hvalue⟩ := h
  rw [masked, ← hmask, ← BitVec.and_assoc, hw, hvalue]

end Sys2Proof

namespace Sys2Proof.Machine

open Claim

/-! ### An instruction's rule on words, from its row (30_encoding.md R54 to R57) -/

/-- A row decodes exactly the words of its match, to what its format's extractor takes from them. -/
theorem decodesExactly_of_mem {d : Descriptor} (hd : d ∈ descriptorTable) {record : Config → Word → Instruction}
    (hrecord : ∀ c w, extract c d w = record c w) : DecodesExactly d.op (masked d.mask d.value) record := by
  refine fun s => ⟨s.outputs, step_eq_next_observe s, fun hhit => ?_, fun hmiss r hr hop => hmiss ?_⟩
  · rw [← hrecord]
    exact decode_of_fits hd ((fits_iff_masked ..).mpr hhit) s.cfg
  · obtain ⟨e, he, hfits, rfl⟩ := decode_eq_some hr
    rw [← fits_iff_masked, fits_of_op_eq hd he hop.symm]
    exact hfits

/-- R55: a word of this opcode that none of the masks takes in is absent, if every row of the opcode is within one. -/
theorem othersAbsent_of_within {opcode : Nat} {rows : List (Word × Word)}
    (h : ∀ d ∈ descriptorTable, d.opcode.toNat = opcode → ∃ p ∈ rows, d.Within p) : OthersAbsent opcode rows := by
  intro s hop hrows
  refine step_of_lookup_none (scan_none.mpr fun d hd => Bool.eq_false_iff.mpr fun hfits => ?_)
  rw [bits_opcode, show opcodeOf s.word = d.opcode from opcode_eq_of_fits hfits] at hop
  obtain ⟨p, hp, hwithin⟩ := h d hd hop
  exact hrows p hp (masked_of_within hwithin ((fits_iff_masked ..).mp hfits))

/-! ### The register slots as the rules name them (00_scope.md R7, 30_encoding.md R43) -/

theorem bits_rs1Slot (w : Word) : bits w 19 15 = (rs1Slot w).toNat :=
  (bits_eq w ..).trans (toNat_rs1Slot w).symm

theorem bits_rs2Slot (w : Word) : bits w 24 20 = (rs2Slot w).toNat :=
  (bits_eq w ..).trans (toNat_rs2Slot w).symm

theorem reg_rd (w : Word) : reg w 11 7 = rdOf w := congrArg Register.ofNumber (bits_rdSlot w)

theorem reg_rs1 (w : Word) : reg w 19 15 = rs1Of w := congrArg Register.ofNumber (bits_rs1Slot w)

theorem reg_rs2 (w : Word) : reg w 24 20 = rs2Of w := congrArg Register.ofNumber (bits_rs2Slot w)

/-! ### R format: the three-register operations (40_r_format.md R80, R81, R83 to R92, R96 to R103) -/

/-- R80. -/
theorem recordR_eq_ruleR (op : Op) (c : Config) (w : Word) :
    recordR op (rdOf w) (rs1Of w) (rs2Of w) = ruleR op c w := by
  rw [recordR, ruleR, reg_rd, reg_rs1, reg_rs2]

/-- R52: the three tables whose rows are tagged R. -/
theorem mem_descriptorTable_of_mem_r {d : Descriptor}
    (h : d ∈ tableRegister ∨ d ∈ tableShiftImmediate ∨ d ∈ tableMultiplyDivide) : d ∈ descriptorTable := by
  simp only [descriptorTable, List.mem_append]
  tauto

theorem extract_of_mem_register {d : Descriptor} (h : d ∈ tableRegister ∨ d ∈ tableMultiplyDivide) (c : Config)
    (w : Word) : extract c d w = ruleR d.op c w := by
  rw [← recordR_eq_ruleR]
  obtain h | h := h <;> fin_cases h <;> rfl

theorem decodesExactly_of_mem_register {d : Descriptor} (h : d ∈ tableRegister ∨ d ∈ tableMultiplyDivide) :
    DecodesExactly d.op (masked d.mask d.value) (ruleR d.op) :=
  decodesExactly_of_mem (mem_descriptorTable_of_mem_r (h.imp_right .inr)) (extract_of_mem_register h)

/-- R81. -/
theorem othersAbsent_register : OthersAbsent 0b0110011 registerRows :=
  othersAbsent_of_within (by unfold Descriptor.Within; decide)

/-- Settles O16: row by row of the table. -/
theorem registerArithmeticWords : Obligations.RegisterArithmeticWords := by
  obtain ⟨hadd, hsub, hsll, hslt, hsltu, hxor, hsrl, hsra, hor, hand⟩ :=
    List.forall_iff_forall_mem.mpr fun _ (h : _ ∈ tableRegister) => decodesExactly_of_mem_register (.inl h)
  exact ⟨hadd, hsub, hsll, hslt, hsltu, hxor, hsrl, hsra, hor, hand, othersAbsent_register⟩

/-- Settles O18: row by row of the table. -/
theorem multiplyDivideWords : Obligations.MultiplyDivideWords := by
  obtain ⟨hmul, hmulh, hmulhsu, hmulhu, hdiv, hdivu, hrem, hremu⟩ :=
    List.forall_iff_forall_mem.mpr fun _ (h : _ ∈ tableMultiplyDivide) => decodesExactly_of_mem_register (.inr h)
  exact ⟨hmul, hmulh, hmulhsu, hmulhu, hdiv, hdivu, hrem, hremu, othersAbsent_register⟩

/-! ### R format: the shift-immediates (40_r_format.md R82, R93 to R95) -/

/-- R82: in either mode. -/
theorem recordShift_eq_ruleShift (op : Op) (c : Config) (w : Word) :
    recordShift c.shamtMode op (rdOf w) (rs1Of w) (rs2Slot w) = ruleShift op c w := by
  unfold recordShift ruleShift
  cases c.shamtMode
  case replicate => exact recordR_eq_ruleR op c w
  case wired => rw [reg_rd, reg_rs1, bits_rs2Slot, BitVec.ofNat_toNat, BitVec.setWidth_eq]

theorem extract_of_mem_tableShiftImmediate {d : Descriptor} (h : d ∈ tableShiftImmediate) (c : Config) (w : Word) :
    extract c d w = ruleShift d.op c w := by
  rw [← recordShift_eq_ruleShift]
  fin_cases h <;> rfl

theorem decodesExactly_of_mem_tableShiftImmediate {d : Descriptor} (h : d ∈ tableShiftImmediate) :
    DecodesExactly d.op (masked d.mask d.value) (ruleShift d.op) :=
  decodesExactly_of_mem (mem_descriptorTable_of_mem_r (.inr (.inl h))) (extract_of_mem_tableShiftImmediate h)

/-- R81, R93 to R95: every row of the opcode is one of the listed masks itself. -/
theorem othersAbsent_immediate : OthersAbsent 0b0010011 immediateRows :=
  othersAbsent_of_within (by unfold Descriptor.Within; decide)

/-- Settles O17: row by row of the table. -/
theorem shiftImmediateWords : Obligations.ShiftImmediateWords := by
  obtain ⟨hslli, hsrli, hsrai⟩ :=
    List.forall_iff_forall_mem.mpr fun _ h => decodesExactly_of_mem_tableShiftImmediate h
  exact ⟨hslli, hsrli, hsrai, othersAbsent_immediate⟩

/-! ### What `P_SHAMT_MODE` affects (40_r_format.md R82) -/

/-- R82: the operations the parameter affects. -/
abbrev shiftOps : List Op := [.slli, .srli, .srai]

theorem mem_tableShiftImmediate_of_op : ∀ d ∈ descriptorTable, d.op ∈ shiftOps → d ∈ tableShiftImmediate := by decide

/-- R161: a row and its record are of a shift-immediate or neither is. -/
theorem extract_op_mem_shiftOps {d : Descriptor} (hd : d ∈ descriptorTable) (c : Config) (w : Word) :
    (extract c d w).op ∈ shiftOps ↔ d.op ∈ shiftOps := by
  obtain ⟨henv, hr⟩ | ⟨-, hr⟩ := extract_op hd c w <;> rw [hr]
  obtain h | h := henv <;> rw [h] <;> split <;> decide

/-- R80: the one extractor that reads the configuration does so for the shift-immediates alone. -/
theorem extractR_of_not_shift {d : Descriptor} (h : d.op ∉ shiftOps) (c : Config) (w : Word) :
    extractR c d w = recordR d.op (rdOf w) (rs1Of w) (rs2Of w) := by
  unfold extractR
  split <;> simp_all

theorem extract_congr_of_not_shift {d : Descriptor} (h : d.op ∉ shiftOps) (c c' : Config) (w : Word) :
    extract c d w = extract c' d w := by
  unfold extract
  split
  case h_1 => rw [extractR_of_not_shift h, extractR_of_not_shift h]
  all_goals rfl

theorem extract_shamt_of_not_shift {d : Descriptor} (h : d.op ∉ shiftOps) (c : Config) (w : Word) :
    (extract c d w).shamt = 0 := by
  unfold extract
  split
  case h_1 => rw [extractR_of_not_shift h]; rfl
  case h_2 => unfold extractI; split <;> rfl
  case h_7 => unfold extractSpecial; split <;> rfl
  all_goals rfl

/-- R82: the fields that both modes set alike. -/
theorem ruleShift_shared (op : Op) (c : Config) (w : Word) :
    (ruleShift op c w).op = op ∧ (ruleShift op c w).rd = reg w 11 7 ∧ (ruleShift op c w).rs1 = reg w 19 15 := by
  unfold ruleShift
  cases c.shamtMode <;> exact ⟨rfl, rfl, rfl⟩

/-- Settles O54: both configurations extract from the one row that matches the word. -/
theorem shamtModeAffectsShiftImmediatesAlone : Obligations.ShamtModeAffectsShiftImmediatesAlone := by
  refine ⟨rfl, fun c c' w => ⟨decode_eq_none_iff.trans decode_eq_none_iff.symm, fun r r' hr hr' => ?_⟩⟩
  obtain ⟨d, hd, hfits, rfl⟩ := decode_eq_some hr
  obtain rfl : extract c' d w = r' := Option.some.inj ((decode_of_fits hd hfits c').symm.trans hr')
  rw [extract_op_mem_shiftOps hd]
  by_cases hshift : d.op ∈ shiftOps
  · have hrow := mem_tableShiftImmediate_of_op d hd hshift
    obtain ⟨hop, hrd, hrs1⟩ := ruleShift_shared d.op c w
    obtain ⟨hop', hrd', hrs1'⟩ := ruleShift_shared d.op c' w
    simp only [extract_of_mem_tableShiftImmediate hrow, hop, hrd, hrs1, hop', hrd', hrs1', true_and]
    refine ⟨fun h => absurd hshift h, fun _ => ⟨fun hmode => ?_, fun hmode => ?_⟩⟩
    all_goals rw [ruleShift, hmode]
  · rw [← extract_congr_of_not_shift hshift c c' w]
    exact ⟨rfl, rfl, rfl, fun _ => ⟨rfl, extract_shamt_of_not_shift hshift c w⟩, fun h => absurd h hshift⟩

/-! ### The meanings (40_r_format.md R80, R82) -/

/-- Delivering is answering a next state in which the record is observed and nothing else differs. -/
theorem completes_of_exec_eq_deliver {i : Instr} {s : State} {r : Instruction} (h : exec i s = deliver r s) :
    Completes i s r := h

/-- Settles O6: each of the eighteen meanings delivers the record of R80. -/
theorem threeRegisterMeaningsComplete : Obligations.ThreeRegisterMeaningsComplete := by
  intro rd rs1 rs2 s
  and_intros <;> exact completes_of_exec_eq_deliver rfl

/-- R82: the shift-immediates deliver the record of the mode that the configuration holds. -/
theorem shiftImmediates_complete {s : State} {mode : ShamtMode} (hmode : s.cfg.shamtMode = mode) (rd rs1 : Register)
    (amount : Slot) :
    Completes (.slli rd rs1 amount) s (recordShift mode .slli rd rs1 amount) ∧
      Completes (.srli rd rs1 amount) s (recordShift mode .srli rd rs1 amount) ∧
      Completes (.srai rd rs1 amount) s (recordShift mode .srai rd rs1 amount) := by
  subst hmode
  and_intros <;> exact completes_of_exec_eq_deliver rfl

/-- Settles O7: in each mode, the record of that mode. -/
theorem shiftImmediateMeaningsComplete : Obligations.ShiftImmediateMeaningsComplete :=
  fun rd rs1 amount _ => ⟨(shiftImmediates_complete · rd rs1 amount), (shiftImmediates_complete · rd rs1 amount)⟩

/-! ### The source's vectors (95_test_vectors.md V1 to V5) -/

/-- Settles O2: each of the five words is the encoding of its instruction. -/
theorem sourceVectorsDecode : Obligations.SourceVectorsDecode :=
  ⟨decodeOfEncodeIsIdentity (.add .a0 .a1 .a2) rfl, decodeOfEncodeIsIdentity (.addi .a0 .a1 0x123) rfl,
    decodeOfEncodeIsIdentity (.andi .s1 .gp 0xfff) rfl, decodeOfEncodeIsIdentity (.auipc .a0 0x12345) rfl,
    decodeOfEncodeIsIdentity (.beq .a0 .a1 6) rfl⟩

end Sys2Proof.Machine

namespace Sys2Proof.Machine

open Claim

/-! ### I format: immediate arithmetic, loads and JALR (41_i_format.md R110 to R122) -/

/-- R110: the immediate is sign-extended whatever the operation. -/
theorem recordI_eq_ruleI (op : Op) (c : Config) (w : Word) :
    recordI op (rdOf w) (rs1Of w) (upper12 w) = ruleI op c w := by
  rw [recordI, ruleI, reg_rd, reg_rs1, bits_upper12, sextN_toNat, signed12]

/-- R52: the rows of `tableLoadJumpFence` above the two fences. -/
abbrev tableLoadJump : List Descriptor := tableLoadJumpFence.take 6

theorem mem_descriptorTable_of_mem_immediate {d : Descriptor} (h : d ∈ tableImmediate ∨ d ∈ tableLoadJump) :
    d ∈ descriptorTable := by
  have hmem : d ∈ tableImmediate ∨ d ∈ tableLoadJumpFence := h.imp_right List.mem_of_mem_take
  simp only [descriptorTable, List.mem_append]
  tauto

/-- R54: of the two bodies that the tag I feeds, these rows take `extract_I`. -/
theorem extract_of_mem_immediate {d : Descriptor} (h : d ∈ tableImmediate ∨ d ∈ tableLoadJump) (c : Config)
    (w : Word) : extract c d w = ruleI d.op c w := by
  rw [← recordI_eq_ruleI]
  obtain h | h := h <;> fin_cases h <;> rfl

theorem decodesExactly_of_mem_immediate {d : Descriptor} (h : d ∈ tableImmediate ∨ d ∈ tableLoadJump) :
    DecodesExactly d.op (masked d.mask d.value) (ruleI d.op) :=
  decodesExactly_of_mem (mem_descriptorTable_of_mem_immediate h) (extract_of_mem_immediate h)

/-- Settles O19: row by row of the table. -/
theorem immediateArithmeticWords : Obligations.ImmediateArithmeticWords := by
  obtain ⟨haddi, hslti, hsltiu, hxori, hori, handi⟩ :=
    List.forall_iff_forall_mem.mpr fun _ (h : _ ∈ tableImmediate) => decodesExactly_of_mem_immediate (.inl h)
  exact ⟨haddi, hslti, hsltiu, hxori, hori, handi⟩

/-- R117 to R121: the five rows of the opcode are the listed masks, so that funct3 011, 110 and 111 have none. -/
theorem othersAbsent_load : OthersAbsent 0b0000011
    [(0x0000707f, 0x00000003), (0x0000707f, 0x00001003), (0x0000707f, 0x00002003), (0x0000707f, 0x00004003),
     (0x0000707f, 0x00005003)] :=
  othersAbsent_of_within (by unfold Descriptor.Within; decide)

/-- Settles O20: row by row of the table, of which the sixth is JALR's. -/
theorem loadWords : Obligations.LoadWords := by
  obtain ⟨hlb, hlh, hlw, hlbu, hlhu, -⟩ :=
    List.forall_iff_forall_mem.mpr fun _ (h : _ ∈ tableLoadJump) => decodesExactly_of_mem_immediate (.inr h)
  exact ⟨hlb, hlh, hlw, hlbu, hlhu, othersAbsent_load⟩

/-! ### The jumps (41_i_format.md R122, 45_uj_format.md R155, R156) -/

/-- R155: the offset that the rule assembles by disjunction. -/
theorem recordUJ_eq_ruleUJ (op : Op) (c : Config) (w : Word) : recordUJ op (rdOf w) (jumpField w) = ruleUJ op c w := by
  rw [recordUJ, ruleUJ, reg_rd, immUJ_eq, jumpOffset, zext]

/-- R122: JALR's row is the only one of its opcode. -/
theorem othersAbsent_jalr : OthersAbsent 0b1100111 [(0x0000707f, 0x00000067)] :=
  othersAbsent_of_within (by unfold Descriptor.Within; decide)

/-- R156: JAL's row. -/
abbrev jalRow : Descriptor := row .jal .uj 0b1101111 0b000

theorem decodesExactly_jalRow : DecodesExactly .jal (masked jalRow.mask jalRow.value) (ruleUJ .jal) :=
  decodesExactly_of_mem (d := jalRow) (by decide) (recordUJ_eq_ruleUJ .jal)

/-- Settles O21: JALR's row takes the signed immediate of R110, JAL's the unsigned offset of R155. -/
theorem jumpWords : Obligations.JumpWords := by
  obtain ⟨-, -, -, -, -, hjalr⟩ :=
    List.forall_iff_forall_mem.mpr fun _ (h : _ ∈ tableLoadJump) => decodesExactly_of_mem_immediate (.inr h)
  exact ⟨hjalr, decodesExactly_jalRow, othersAbsent_jalr⟩

/-! ### The meanings of the I format (41_i_format.md R110) -/

/-- Settles O8: each of the twelve meanings delivers the record of R110. -/
theorem immediateMeaningsComplete : Obligations.ImmediateMeaningsComplete := by
  intro rd rs1 imm s
  rw [sextN_toNat]
  and_intros <;> exact completes_of_exec_eq_deliver rfl

end Sys2Proof.Machine

namespace Sys2Proof.Machine

open Claim

/-! ### S format: the stores (42_s_format.md R130 to R133) -/

/-- R130: the offset of the two pieces, sign-extended whatever the operation. -/
theorem recordS_eq_ruleS (op : Op) (c : Config) (w : Word) :
    recordS op (rs1Of w) (rs2Of w) (storeField w) = ruleS op c w := by
  obtain ⟨hoffset, -, -, -⟩ := immediateS w
  rw [recordS, ruleS, reg_rs1, reg_rs2, hoffset]

/-- R52: the rows of `tableStoreBranch` above the branches. -/
abbrev tableStore : List Descriptor := tableStoreBranch.take 3

theorem mem_descriptorTable_of_mem_tableStore {d : Descriptor} (h : d ∈ tableStore) : d ∈ descriptorTable := by
  have hmem : d ∈ tableStoreBranch := List.mem_of_mem_take h
  simp only [descriptorTable, List.mem_append]
  tauto

theorem extract_of_mem_tableStore {d : Descriptor} (h : d ∈ tableStore) (c : Config) (w : Word) :
    extract c d w = ruleS d.op c w := by
  rw [← recordS_eq_ruleS]
  fin_cases h <;> rfl

theorem decodesExactly_of_mem_tableStore {d : Descriptor} (h : d ∈ tableStore) :
    DecodesExactly d.op (masked d.mask d.value) (ruleS d.op) :=
  decodesExactly_of_mem (mem_descriptorTable_of_mem_tableStore h) (extract_of_mem_tableStore h)

/-- R131 to R133: the three rows of the opcode are the listed masks, so that funct3 011 to 111 have none. -/
theorem othersAbsent_store :
    OthersAbsent 0b0100011 [(0x0000707f, 0x00000023), (0x0000707f, 0x00001023), (0x0000707f, 0x00002023)] :=
  othersAbsent_of_within (by unfold Descriptor.Within; decide)

/-- Settles O23: row by row of the table. -/
theorem storeWords : Obligations.StoreWords := by
  obtain ⟨hsb, hsh, hsw⟩ :=
    List.forall_iff_forall_mem.mpr fun _ (h : _ ∈ tableStore) => decodesExactly_of_mem_tableStore h
  exact ⟨hsb, hsh, hsw, othersAbsent_store⟩

/-- Settles O10: each of the three meanings delivers the record of R130. -/
theorem storeMeaningsComplete : Obligations.StoreMeaningsComplete := by
  intro rs1 rs2 imm s
  rw [sextN_toNat]
  and_intros <;> exact completes_of_exec_eq_deliver rfl

end Sys2Proof.Machine

namespace Sys2Proof.Machine

open Claim

/-! ### SB format: the branches (43_sb_format.md R140 to R147) -/

/-- R46: the rule's thirteen bits are the twelve of the field with a 0 below. -/
theorem sextN_rawSB (w : Word) : sextN 13 (rawSB w) = branchOffset (branchField w) := by
  rw [rawSB_eq, ← toNat_append_zero, sextN_toNat, branchOffset]

/-- R140. -/
theorem recordSB_eq_ruleSB (op : Op) (c : Config) (w : Word) :
    recordSB op (rs1Of w) (rs2Of w) (branchField w) = ruleSB op c w := by
  rw [recordSB, ruleSB, reg_rs1, reg_rs2, sextN_rawSB]

/-- R52: the rows of `tableStoreBranch` below the stores. -/
abbrev tableBranch : List Descriptor := tableStoreBranch.drop 3

theorem mem_descriptorTable_of_mem_tableBranch {d : Descriptor} (h : d ∈ tableBranch) : d ∈ descriptorTable := by
  have hmem : d ∈ tableStoreBranch := List.mem_of_mem_drop h
  simp only [descriptorTable, List.mem_append]
  tauto

theorem extract_of_mem_tableBranch {d : Descriptor} (h : d ∈ tableBranch) (c : Config) (w : Word) :
    extract c d w = ruleSB d.op c w := by
  rw [← recordSB_eq_ruleSB]
  fin_cases h <;> rfl

theorem decodesExactly_of_mem_tableBranch {d : Descriptor} (h : d ∈ tableBranch) :
    DecodesExactly d.op (masked d.mask d.value) (ruleSB d.op) :=
  decodesExactly_of_mem (mem_descriptorTable_of_mem_tableBranch h) (extract_of_mem_tableBranch h)

/-- R141 to R147: the six rows of the opcode are the listed masks, so that funct3 010 and 011 have none. -/
theorem othersAbsent_branch : OthersAbsent 0b1100011
    [(0x0000707f, 0x00000063), (0x0000707f, 0x00001063), (0x0000707f, 0x00004063), (0x0000707f, 0x00005063),
     (0x0000707f, 0x00006063), (0x0000707f, 0x00007063)] :=
  othersAbsent_of_within (by unfold Descriptor.Within; decide)

/-- Settles O24: row by row of the table. -/
theorem branchWords : Obligations.BranchWords := by
  obtain ⟨hbeq, hbne, hblt, hbge, hbltu, hbgeu⟩ :=
    List.forall_iff_forall_mem.mpr fun _ (h : _ ∈ tableBranch) => decodesExactly_of_mem_tableBranch h
  exact ⟨hbeq, hbne, hblt, hbge, hbltu, hbgeu, othersAbsent_branch⟩

/-- Settles O11: each of the six meanings delivers the record of R140, whose offset R46 also gives as twice the signed
value of the operand. -/
theorem branchMeaningsComplete : Obligations.BranchMeaningsComplete := by
  intro rs1 rs2 offset s
  rw [sextN_toNat, ← branchOffset_eq]
  and_intros <;> exact completes_of_exec_eq_deliver rfl

end Sys2Proof.Machine

namespace Sys2Proof.Machine

open Claim

/-! ### U format: LUI and AUIPC (44_u_format.md R150 to R152) -/

/-- R150: the field is taken as it stands, unshifted and unsigned. -/
theorem recordU_eq_ruleU (op : Op) (c : Config) (w : Word) : recordU op (rdOf w) (upper20 w) = ruleU op c w := by
  obtain ⟨hvalue, -⟩ := immediateU w
  rw [recordU, ruleU, reg_rd, hvalue]

/-- R151: LUI's row. -/
abbrev luiRow : Descriptor := row .lui .u 0b0110111 0b000

/-- R152: AUIPC's row. -/
abbrev auipcRow : Descriptor := row .auipc .u 0b0010111 0b000

/-- Settles O25: by the two rows, whose masks take in the opcode alone. -/
theorem upperImmediateWords : Obligations.UpperImmediateWords :=
  ⟨decodesExactly_of_mem (d := luiRow) (by decide) (recordU_eq_ruleU .lui),
    decodesExactly_of_mem (d := auipcRow) (by decide) (recordU_eq_ruleU .auipc)⟩

/-- Settles O12: LUI and AUIPC deliver the record of R150, JAL that of R155, whose offset is twice the operand. -/
theorem upperAndJumpMeaningsComplete : Obligations.UpperAndJumpMeaningsComplete := by
  intro rd imm s
  rw [← jumpOffset_eq]
  and_intros <;> exact completes_of_exec_eq_deliver rfl

end Sys2Proof.Machine

namespace Sys2Proof.Machine

open Claim

/-! ### Special format: ECALL and EBREAK (46_special_format.md R161 to R163) -/

theorem mem_descriptorTable_of_mem_tableSpecial {d : Descriptor} (h : d ∈ tableSpecial) : d ∈ descriptorTable :=
  List.mem_append_right _ h

/-- A row that gives its own operation only on some of the words that it matches decodes exactly those to it. -/
theorem decodesExactly_restrict {op : Op} {hits selected : Word → Prop}
    {record record' : Config → Word → Instruction} (h : DecodesExactly op hits record)
    (hsame : ∀ c w, selected w → record c w = record' c w)
    (hother : ∀ c w, ¬ selected w → (record c w).op ≠ op) :
    DecodesExactly op (fun w => hits w ∧ selected w) record' := by
  intro s
  obtain ⟨r, hstep, hhit, hmiss⟩ := h s
  refine ⟨r, hstep, fun ⟨hhits, hsel⟩ => hsame s.cfg _ hsel ▸ hhit hhits, fun hnot x hx => ?_⟩
  by_cases hhits : hits s.word
  · obtain rfl : record s.cfg s.word = x := Option.some.inj ((hhit hhits).symm.trans hx)
    exact hother s.cfg _ fun hsel => hnot ⟨hhits, hsel⟩
  · exact hmiss hhits x hx

/-- R161: the one record of both rows, whose operation is not the row's but the one that `word[31:20]` selects. -/
def ruleEnvironment (c : Config) (w : Word) : Instruction :=
  ruleBare (if bits w 31 20 = 0 then .ecall else .ebreak) c w

theorem ruleEnvironment_of_zero (c : Config) (w : Word) (h : bits w 31 20 = 0) :
    ruleEnvironment c w = ruleBare .ecall c w := by
  rw [ruleEnvironment, if_pos h]

theorem ruleEnvironment_of_ne_zero (c : Config) (w : Word) (h : bits w 31 20 ≠ 0) :
    ruleEnvironment c w = ruleBare .ebreak c w := by
  rw [ruleEnvironment, if_neg h]

/-- R52: the two rows of `tableSpecial` above CSR access. -/
abbrev tableEnvironment : List Descriptor := tableSpecial.take 2

theorem extract_of_mem_tableEnvironment {d : Descriptor} (h : d ∈ tableEnvironment) (c : Config) (w : Word) :
    extract c d w = ruleEnvironment c w := by
  have hop : (if upper12 w = 0 then Op.ecall else .ebreak) = if bits w 31 20 = 0 then .ecall else .ebreak :=
    if_congr (bits_upper12_eq_zero_iff w).symm rfl rfl
  rw [ruleEnvironment, ← hop]
  fin_cases h <;> rfl

theorem decodesExactly_of_mem_tableEnvironment {d : Descriptor} (h : d ∈ tableEnvironment) :
    DecodesExactly d.op (masked d.mask d.value) ruleEnvironment :=
  decodesExactly_of_mem (mem_descriptorTable_of_mem_tableSpecial (List.mem_of_mem_take h))
    (extract_of_mem_tableEnvironment h)

/-- Settles O26: both rows match the shared shape, and `word[31:20]` restricts each to its own operation. -/
theorem environmentWords : Obligations.EnvironmentWords := by
  obtain ⟨hecall, hebreak⟩ :=
    List.forall_iff_forall_mem.mpr fun _ (h : _ ∈ tableEnvironment) => decodesExactly_of_mem_tableEnvironment h
  refine ⟨decodesExactly_restrict hecall ruleEnvironment_of_zero fun c w hne => ?_,
    decodesExactly_restrict hebreak ruleEnvironment_of_ne_zero fun c w hzero => ?_⟩
  · rw [ruleEnvironment_of_ne_zero c w hne]
    exact nofun
  · rw [ruleEnvironment_of_zero c w (not_not.mp hzero)]
    exact nofun

/-! ### Special format: CSR access (46_special_format.md R164 to R171) -/

/-- R164: the index is the field itself, unsigned. -/
theorem ofNat_bits_upper12 (w : Word) : BitVec.ofNat 12 (bits w 31 20) = upper12 w := by
  rw [bits_upper12, BitVec.ofNat_toNat, BitVec.setWidth_eq]

/-- R164. -/
theorem recordCsrRegister_eq_ruleCsrRegister (op : Op) (c : Config) (w : Word) :
    recordCsrRegister op (rdOf w) (rs1Of w) (upper12 w) = ruleCsrRegister op c w := by
  rw [recordCsrRegister, ruleCsrRegister, reg_rd, reg_rs1, ofNat_bits_upper12]

/-- R165: the slot of rs1 is the immediate, unsigned. -/
theorem recordCsrImmediate_eq_ruleCsrImmediate (op : Op) (c : Config) (w : Word) :
    recordCsrImmediate op (rdOf w) (rs1Slot w) (upper12 w) = ruleCsrImmediate op c w := by
  rw [recordCsrImmediate, ruleCsrImmediate, reg_rd, ofNat_bits_upper12, bits_rs1Slot, csrImmediate, zext]

/-- R52: the rows of the CSR register forms. -/
abbrev tableCsrRegister : List Descriptor := (tableSpecial.drop 2).take 3

/-- R52: the rows of the CSR immediate forms. -/
abbrev tableCsrImmediate : List Descriptor := tableSpecial.drop 5

theorem extract_of_mem_tableCsrRegister {d : Descriptor} (h : d ∈ tableCsrRegister) (c : Config) (w : Word) :
    extract c d w = ruleCsrRegister d.op c w := by
  rw [← recordCsrRegister_eq_ruleCsrRegister]
  fin_cases h <;> rfl

theorem extract_of_mem_tableCsrImmediate {d : Descriptor} (h : d ∈ tableCsrImmediate) (c : Config) (w : Word) :
    extract c d w = ruleCsrImmediate d.op c w := by
  rw [← recordCsrImmediate_eq_ruleCsrImmediate]
  fin_cases h <;> rfl

theorem decodesExactly_of_mem_tableCsrRegister {d : Descriptor} (h : d ∈ tableCsrRegister) :
    DecodesExactly d.op (masked d.mask d.value) (ruleCsrRegister d.op) :=
  decodesExactly_of_mem (mem_descriptorTable_of_mem_tableSpecial (List.mem_of_mem_drop (List.mem_of_mem_take h)))
    (extract_of_mem_tableCsrRegister h)

theorem decodesExactly_of_mem_tableCsrImmediate {d : Descriptor} (h : d ∈ tableCsrImmediate) :
    DecodesExactly d.op (masked d.mask d.value) (ruleCsrImmediate d.op) :=
  decodesExactly_of_mem (mem_descriptorTable_of_mem_tableSpecial (List.mem_of_mem_drop h))
    (extract_of_mem_tableCsrImmediate h)

/-- Settles O27: row by row of the table. -/
theorem csrRegisterWords : Obligations.CsrRegisterWords := by
  obtain ⟨hcsrrw, hcsrrs, hcsrrc⟩ :=
    List.forall_iff_forall_mem.mpr fun _ (h : _ ∈ tableCsrRegister) => decodesExactly_of_mem_tableCsrRegister h
  exact ⟨hcsrrw, hcsrrs, hcsrrc⟩

/-- Settles O28: row by row of the table. -/
theorem csrImmediateWords : Obligations.CsrImmediateWords := by
  obtain ⟨hcsrrwi, hcsrrsi, hcsrrci⟩ :=
    List.forall_iff_forall_mem.mpr fun _ (h : _ ∈ tableCsrImmediate) => decodesExactly_of_mem_tableCsrImmediate h
  exact ⟨hcsrrwi, hcsrrsi, hcsrrci⟩

/-! ### The meanings of the Special format (46_special_format.md R161, R164, R165) -/

/-- Settles O13: each of the two meanings delivers the record of R161, whatever the bits that the shape carries. -/
theorem environmentMeaningsComplete : Obligations.EnvironmentMeaningsComplete :=
  fun _ _ _ _ => ⟨completes_of_exec_eq_deliver rfl, completes_of_exec_eq_deliver rfl⟩

/-- Settles O14: the register forms deliver the record of R164, the immediate forms that of R165. -/
theorem csrMeaningsComplete : Obligations.CsrMeaningsComplete := by
  intro rd rs1 imm csr s
  and_intros <;> exact completes_of_exec_eq_deliver rfl

end Sys2Proof.Machine

namespace Sys2Proof.Machine

open Claim

/-! ### The fence extractor: FENCE and FENCE.I (47_fence.md R180 to R182) -/

/-- R180: a flag of the rule is one bit of the word. -/
theorem flag_eq_getLsbD (w : Word) (n : Nat) : flag w n = w.getLsbD n := by
  rw [flag, bits_eq, Nat.sub_self, zero_add, pow_one, BitVec.getLsbD, Nat.testBit_eq_decide_div_mod_eq]
  rfl

/-- R180: bit i of the extractor's field is bit 20 + i of the word. -/
theorem getLsbD_fenceField (w : Word) {i : Nat} (hi : i < 8) : (fenceField w).getLsbD i = flag w (20 + i) := by
  rw [flag_eq_getLsbD, fenceField, BitVec.getLsbD_extractLsb, decide_eq_true (by omega), Bool.true_and]

/-- R180: the eight flags, each from its own bit. -/
theorem recordFence_eq_ruleFence (op : Op) (c : Config) (w : Word) :
    recordFence op (fenceField w) = ruleFence op c w := by
  simp only [recordFence, fenceOf, ruleFence, getLsbD_fenceField, Nat.reduceLT, Nat.reduceAdd]

/-- R52: the rows of `tableLoadJumpFence` below JALR. -/
abbrev tableFence : List Descriptor := tableLoadJumpFence.drop 6

theorem mem_descriptorTable_of_mem_tableFence {d : Descriptor} (h : d ∈ tableFence) : d ∈ descriptorTable := by
  have hmem : d ∈ tableLoadJumpFence := List.mem_of_mem_drop h
  simp only [descriptorTable, List.mem_append]
  tauto

/-- R54: of the two bodies that the tag I feeds, these rows take the fence extractor. -/
theorem extract_of_mem_tableFence {d : Descriptor} (h : d ∈ tableFence) (c : Config) (w : Word) :
    extract c d w = ruleFence d.op c w := by
  rw [← recordFence_eq_ruleFence]
  fin_cases h <;> rfl

theorem decodesExactly_of_mem_tableFence {d : Descriptor} (h : d ∈ tableFence) :
    DecodesExactly d.op (masked d.mask d.value) (ruleFence d.op) :=
  decodesExactly_of_mem (mem_descriptorTable_of_mem_tableFence h) (extract_of_mem_tableFence h)

/-- Settles O22: row by row of the table, of which the two fences are the last. -/
theorem fenceWords : Obligations.FenceWords := by
  obtain ⟨hfence, hfenceI⟩ :=
    List.forall_iff_forall_mem.mpr fun _ (h : _ ∈ tableFence) => decodesExactly_of_mem_tableFence h
  exact ⟨hfence, hfenceI⟩

/-- Settles O9: each of the two meanings delivers the record of R180, whatever the bits that the extractor ignores. -/
theorem fenceMeaningsComplete : Obligations.FenceMeaningsComplete :=
  fun _ _ _ _ _ => ⟨completes_of_exec_eq_deliver rfl, completes_of_exec_eq_deliver rfl⟩

end Sys2Proof.Machine

namespace Sys2Proof.Machine

open Claim

/-! ### The result a step leaves -/

theorem outputs_of_step {s t : State} {r : Option Instruction} (h : step s = .next t) (hr : t.observed = .result r) :
    s.outputs = r := by
  obtain rfl := step_eq_next_iff.mp h
  exact Observation.result.inj hr

theorem exists_row_of_decode {c : Config} {w : Word} {r : Instruction} (h : decode c w = some r) :
    ∃ d ∈ descriptorTable, d.op = r.op := by
  obtain ⟨d, hd, -, rfl⟩ := decode_eq_some h
  exact exists_row_of_op hd c w

/-! ### The reserved operations (48_reserved_ops.md R190) -/

theorem not_reserved_of_mem : ∀ d ∈ descriptorTable, d.op.reserved = false := by decide

/-- R13: a row's code is its place among the 55. -/
theorem code_le_of_mem {d : Descriptor} (h : d ∈ descriptorTable) : d.op.code.toNat ≤ 54 := by
  obtain ⟨i, hi⟩ := List.mem_iff_getElem?.mp h
  obtain ⟨hlt, -⟩ := List.getElem?_eq_some_iff.mp hi
  rw [code_of_getElem? hi]
  exact Nat.le_of_lt_succ hlt

theorem fieldSet_eq_none_iff {op : Op} : fieldSet op = none ↔ op.reserved = true := by
  cases op <;> decide

theorem rendering_of_reserved {op : Op} (h : op.reserved = true) : rendering op = none := by
  revert h
  cases op <;> decide

theorem toText_of_rendering_none {r : Instruction} (h : rendering r.op = none) (mode : ShamtMode) :
    toText mode r = none := by
  simp [toText, h]

/-- Settles O49: every result's operation is a row's, and no row's is reserved. -/
theorem noWordGivesAReservedOperation : Obligations.NoWordGivesAReservedOperation := by
  refine ⟨not_reserved_of_mem, fun s t r h hr => ?_, fun mode r h => ?_⟩
  · obtain ⟨d, hd, hop⟩ := exists_row_of_decode (outputs_of_step h hr)
    rw [← hop]
    exact ⟨not_reserved_of_mem d hd, code_le_of_mem hd⟩
  · exact ⟨fieldSet_eq_none_iff.mpr h, toText_of_rendering_none (rendering_of_reserved h) mode⟩

/-! ### The counter reads (48_reserved_ops.md R191) -/

/-- R191: the number the rule spells is the encoding of CSRRS with `rs1` x0. -/
theorem counterWord_eq_encode (rd : Slot) (csr : BitVec 12) :
    BitVec.ofNat 32 (csr.toNat * 2 ^ 20 + 0 * 2 ^ 15 + 0b010 * 2 ^ 12 + rd.toNat * 2 ^ 7 + 0b1110011) =
      encode (.csrrs (.ofSlot rd) .zero csr) := by
  have hrd := rd.isLt
  have hcsr := csr.isLt
  apply BitVec.eq_of_toNat_eq
  rw [encode, slot_ofSlot, toNat_packI, BitVec.toNat_ofNat, Nat.mod_eq_of_lt (by omega)]
  rfl

theorem counterIndex_lt : ∀ index ∈ [0xC00, 0xC80, 0xC01, 0xC81, 0xC02, 0xC82], index < 2 ^ 12 := by decide

/-- Settles O50: the word encodes CSRRS, and so decodes to it. -/
theorem counterReadsAreCsrrs : Obligations.CounterReadsAreCsrrs := by
  intro s rd index hrd hindex hword
  have hlt : index < 2 ^ 12 := counterIndex_lt index hindex
  obtain ⟨slot, rfl⟩ : ∃ slot : Slot, slot.toNat = rd := ⟨.ofFin ⟨rd, hrd⟩, rfl⟩
  obtain ⟨csr, rfl⟩ : ∃ csr : BitVec 12, csr.toNat = index := ⟨.ofFin ⟨index, hlt⟩, rfl⟩
  rw [counterWord_eq_encode] at hword
  have hdecode : decodeWord s.word = some (.csrrs (.ofSlot slot) .zero csr) := by
    rw [hword, decodeOfEncodeIsIdentity]
    rw [Instr.WellFormed, Instr.wellFormed, named_ofSlot]
    rfl
  rw [step_of_decodeWord_some hdecode, BitVec.ofNat_toNat, BitVec.setWidth_eq]
  rfl

/-! ### The renderer (49_text_renderer.md R195 to R199) -/

/-- R196: the operations it answers for. -/
abbrev renderedOps : List Op :=
  [.add, .sub, .sll, .slt, .sltu, .xor, .srl, .sra, .or, .and, .addi, .slti, .sltiu, .xori, .ori, .andi,
    .slli, .srli, .srai, .beq, .bne, .blt, .bge, .bltu, .bgeu, .auipc, .jal]

theorem rendering_eq_none_iff {op : Op} : rendering op = none ↔ op ∉ renderedOps := by
  cases op <;> decide

/-- R16, R199: the fields that a template prints are those of one field set. -/
def Template.fields : Template → FieldSet
  | .threeRegisters => .registers
  | .registerImmediate => .immediate
  | .shiftImmediate => .shift
  | .branch => .branch
  | .upper => .upper
  | .jump => .jump

theorem fieldSet_of_rendering {op : Op} {name : String} {t : Template} (h : rendering op = some (name, t)) :
    fieldSet op = some t.fields := by
  cases op <;> cases h <;> rfl

/-- R198: `Invalid` alone has no name. -/
theorem isSome_displayName (r : Register) : (displayName r).isSome = r.named := by
  cases r <;> rfl

theorem isSome_joinOperands {texts : List (Option String)} (h : ∀ x ∈ texts, x.isSome = true) :
    (joinOperands texts).isSome = true := by
  induction texts with
  | nil => rfl
  | cons x xs ih =>
    obtain ⟨hx, hxs⟩ := List.forall_mem_cons.mp h
    cases xs with
    | nil => exact hx
    | cons y ys =>
      obtain ⟨a, rfl⟩ := Option.isSome_iff_exists.mp hx
      obtain ⟨b, hb⟩ := Option.isSome_iff_exists.mp (ih hxs)
      simp [joinOperands, hb]

/-- The record renders as its mnemonic, a space and its operands, if each operand has a text. -/
theorem exists_toText {mode : ShamtMode} {r : Instruction} {name : String} {t : Template}
    (h : rendering r.op = some (name, t)) (hops : ∀ x ∈ operandTexts mode t r, x.isSome = true) :
    ∃ ops, toText mode r = some (name ++ " " ++ ops) := by
  obtain ⟨ops, hjoin⟩ := Option.isSome_iff_exists.mp (isSome_joinOperands hops)
  exact ⟨ops, by simp [toText, h, hjoin]⟩

theorem named_of_fieldsAre {r : Instruction} {rd rs1 rs2 csr shamt fence : Bool} {low high step : Int}
    (h : fieldsAre r rd rs1 rs2 csr shamt low high step fence = true) :
    r.rd.named = rd ∧ r.rs1.named = rs1 ∧ r.rs2.named = rs2 := by
  simp only [fieldsAre, Bool.and_eq_true, beq_iff_eq] at h
  obtain ⟨⟨⟨⟨⟨⟨⟨⟨hrd, hrs1⟩, hrs2⟩, -⟩, -⟩, -⟩, -⟩, -⟩, -⟩ := h
  exact ⟨hrd, hrs1, hrs2⟩

/-- R198: the slots that a template prints are set in every record of its field set. -/
theorem isSome_operandTexts {mode : ShamtMode} {r : Instruction} {t : Template} (hfields : fieldSet r.op = some t.fields)
    (h : conforms mode r = true) : ∀ x ∈ operandTexts mode t r, x.isSome = true := by
  unfold conforms at h
  rw [hfields] at h
  cases t <;> cases mode
  all_goals
    obtain ⟨hrd, hrs1, hrs2⟩ := named_of_fieldsAre h
    simp [operandTexts, shownAmount, isSome_displayName, hrd, hrs1, hrs2]

theorem ne_empty_of_space (name ops : String) : name ++ " " ++ ops ≠ "" := by
  intro h
  have hlen := congrArg String.length h
  simp [String.length_append] at hlen

/-- Settles O57: the record conforms, so that every operand its template prints has a text. -/
theorem renderedOperationsAreTheListedOnes : Obligations.RenderedOperationsAreTheListedOnes := by
  refine ⟨fun mode r h => toText_of_rendering_none (rendering_eq_none_iff.mpr h) mode, fun s t r h hr hmem => ?_⟩
  obtain ⟨⟨name, template⟩, hrendering⟩ :=
    Option.ne_none_iff_exists'.mp (rendering_eq_none_iff.not.mpr (not_not.mpr hmem))
  have hconforms : conforms s.cfg.shamtMode r = true := by
    have hsound := soundResult_decode s.cfg s.word
    rwa [show decode s.cfg s.word = some r from outputs_of_step h hr] at hsound
  obtain ⟨ops, htext⟩ := exists_toText hrendering (isSome_operandTexts (fieldSet_of_rendering hrendering) hconforms)
  exact ⟨_, htext, ne_empty_of_space name ops⟩

/-! ### Runs (60_exceptions.md R211, 70_reset_and_hazards.md R234, R235) -/

theorem run_succ (n : Nat) (s : State) : core.run (n + 1) s = core.run n (s.observe s.outputs) := by
  have hstep : core.step s = .next (s.observe s.outputs) := step_eq_next_observe s
  simp only [Host.Core.run, hstep]

/-- Settles O34: by induction on the number of steps. -/
theorem runsNeverStop : Obligations.RunsNeverStop := by
  intro n
  induction n with
  | zero => exact fun s => ⟨s, rfl⟩
  | succ n ih => exact fun s => run_succ n s ▸ ih _

/-- The run of the first word, after which the others are run from the state it leaves. -/
theorem evaluateAll_cons (w : Word) (ws : List Word) (s : State) :
    evaluateAll (w :: ws) s =
      (.result (decode s.cfg w) :: (evaluateAll ws ((s.present w).observe (decode s.cfg w))).1,
        (evaluateAll ws ((s.present w).observe (decode s.cfg w))).2) := by
  rw [evaluateAll, step_eq_next_observe]
  rfl

/-- Settles O35: by induction on the words, each of which leaves the configuration as it was. -/
theorem programResultsAreTheWordsOwn : Obligations.ProgramResultsAreTheWordsOwn := by
  intro ws
  induction ws with
  | nil => exact fun s => ⟨rfl, rfl⟩
  | cons w ws ih =>
    intro s
    obtain ⟨hresults, hcfg⟩ := ih ((s.present w).observe (decode s.cfg w))
    rw [evaluateAll_cons]
    exact ⟨congrArg (_ :: ·) hresults, hcfg⟩

theorem evaluateAll_results (ws : List Word) (s : State) :
    (evaluateAll ws s).1 = ws.map (fun w => .result (decode s.cfg w)) :=
  (programResultsAreTheWordsOwn ws s).1

/-- Marking each word's image and selecting a mark is selecting the words of that mark. -/
theorem filter_zip_map {α β : Type} (f : α → β) (stream : List (Nat × α)) (n : Nat) :
    (((stream.map Prod.fst).zip ((stream.map Prod.snd).map f)).filter (fun p => p.1 == n)).map Prod.snd =
      ((stream.filter (fun p => p.1 == n)).map Prod.snd).map f := by
  rw [List.map_map, List.zip_map', List.filter_map, List.map_map, List.map_map]
  rfl

/-- Settles O36: a word's result is its own, in the interleaved run as alone. -/
theorem interleavedStreamsDoNotInteract : Obligations.InterleavedStreamsDoNotInteract := by
  intro stream n s s' hcfg
  rw [evaluateAll_results, evaluateAll_results, hcfg, filter_zip_map]

theorem observe_outputs_congr {s s' : State} (hword : s.word = s'.word) (hcfg : s.cfg = s'.cfg) :
    s.observe s.outputs = s'.observe s'.outputs := by
  rw [State.observe, State.observe, State.outputs, State.outputs, hword, hcfg]

/-- Settles O37: a word's result is its own, first and last; and a step reads the word and the configuration, which it
leaves as they were. -/
theorem sameWordSameResult : Obligations.SameWordSameResult := by
  refine ⟨fun w ws s => ?_, fun s s' t t' hword hcfg h h' => ?_, fun s t h => ?_⟩
  · rw [evaluateAll_results, List.map_append, List.getLast?_append]
    simp
  · obtain rfl := step_eq_next_iff.mp h
    obtain rfl := step_eq_next_iff.mp h'
    exact observe_outputs_congr hword hcfg
  · obtain rfl := step_eq_next_iff.mp h
    exact step_eq_next_observe _

end Sys2Proof.Machine

namespace Sys2Proof.Machine

open Claim

/-! ### The record of a field set (10_state.md R16) -/

/-- The rule that gives the records of a row of R16. -/
def ruleOf : FieldSet → Op → Config → Word → Instruction
  | .registers => ruleR
  | .shift => ruleShift
  | .immediate => ruleI
  | .fence => ruleFence
  | .store => ruleS
  | .branch => ruleSB
  | .upper => ruleU
  | .jump => ruleUJ
  | .environment => ruleBare
  | .csrRegister => ruleCsrRegister
  | .csrImmediate => ruleCsrImmediate

@[simp] theorem ruleOf_op (fields : FieldSet) (op : Op) (c : Config) (w : Word) : (ruleOf fields op c w).op = op := by
  cases fields
  case shift => exact (ruleShift_shared op c w).1
  all_goals rfl

/-- What the extractor of this row's format takes from any word is what the rule of a field set gives. -/
def ExtractsByRule (d : Descriptor) : Prop :=
  ∀ (c : Config) (w : Word), ∃ fields op, fieldSet op = some fields ∧ extract c d w = ruleOf fields op c w

theorem extractsByRule_of_fieldSet {table : List Descriptor} (fields : FieldSet)
    (hfields : ∀ e ∈ table, fieldSet e.op = some fields) {d : Descriptor} (hd : d ∈ table)
    (h : ∀ c w, extract c d w = ruleOf fields d.op c w) : ExtractsByRule d :=
  fun c w => ⟨fields, d.op, hfields d hd, h c w⟩

/-- R161: ECALL and EBREAK, of one field set, whichever of them `word[31:20]` selects. -/
theorem extractsByRule_of_mem_tableEnvironment {d : Descriptor} (h : d ∈ tableEnvironment) : ExtractsByRule d :=
  fun c w => ⟨.environment, _, by split <;> rfl, extract_of_mem_tableEnvironment h c w⟩

theorem mem_take_or_drop {α : Type} {l : List α} {a : α} (n : Nat) (h : a ∈ l) : a ∈ l.take n ∨ a ∈ l.drop n :=
  List.mem_append.mp ((List.take_append_drop n l).symm ▸ h)

theorem extractsByRule_of_mem_tableSpecial {d : Descriptor} (h : d ∈ tableSpecial) : ExtractsByRule d := by
  obtain h | h := mem_take_or_drop 2 h
  · exact extractsByRule_of_mem_tableEnvironment h
  obtain h | h := mem_take_or_drop 3 h
  · exact extractsByRule_of_fieldSet .csrRegister (by decide) h (extract_of_mem_tableCsrRegister h)
  · exact extractsByRule_of_fieldSet .csrImmediate (by decide) h (extract_of_mem_tableCsrImmediate h)

theorem extractsByRule_of_mem_tableUpperJump {d : Descriptor} (h : d ∈ tableUpperJump) : ExtractsByRule d := by
  intro c w
  fin_cases h
  · exact ⟨.upper, .lui, rfl, recordU_eq_ruleU .lui c w⟩
  · exact ⟨.upper, .auipc, rfl, recordU_eq_ruleU .auipc c w⟩
  · exact ⟨.jump, .jal, rfl, recordUJ_eq_ruleUJ .jal c w⟩

theorem extractsByRule_of_mem {d : Descriptor} (h : d ∈ descriptorTable) : ExtractsByRule d := by
  simp only [descriptorTable, List.mem_append] at h
  obtain ((((((h | h) | h) | h) | h) | h) | h) | h := h
  · exact extractsByRule_of_fieldSet .registers (by decide) h (extract_of_mem_register (.inl h))
  · exact extractsByRule_of_fieldSet .shift (by decide) h (extract_of_mem_tableShiftImmediate h)
  · exact extractsByRule_of_fieldSet .registers (by decide) h (extract_of_mem_register (.inr h))
  · exact extractsByRule_of_fieldSet .immediate (by decide) h (extract_of_mem_immediate (.inl h))
  · obtain h | h := mem_take_or_drop 6 h
    · exact extractsByRule_of_fieldSet .immediate (by decide) h (extract_of_mem_immediate (.inr h))
    · exact extractsByRule_of_fieldSet .fence (by decide) h (extract_of_mem_tableFence h)
  · obtain h | h := mem_take_or_drop 3 h
    · exact extractsByRule_of_fieldSet .store (by decide) h (extract_of_mem_tableStore h)
    · exact extractsByRule_of_fieldSet .branch (by decide) h (extract_of_mem_tableBranch h)
  · exact extractsByRule_of_mem_tableUpperJump h
  · exact extractsByRule_of_mem_tableSpecial h

theorem decode_eq_ruleOf {c : Config} {w : Word} {r : Instruction} (h : decode c w = some r) :
    ∃ fields op, fieldSet op = some fields ∧ r = ruleOf fields op c w := by
  obtain ⟨d, hd, -, rfl⟩ := decode_eq_some h
  exact extractsByRule_of_mem hd c w

/-- R16: the fences alone have flags. -/
theorem isSome_fence_ruleOf (fields : FieldSet) (op : Op) (c : Config) (w : Word) :
    (ruleOf fields op c w).fence.isSome = true ↔ fields = .fence := by
  cases fields
  case fence => exact iff_of_true rfl rfl
  case shift => obtain ⟨_ | _⟩ := c <;> exact ⟨nofun, nofun⟩
  all_goals exact ⟨nofun, nofun⟩

/-! ### What depends on the selectors alone (70_reset_and_hazards.md R231) -/

theorem selectorsOf_congr {w w' : Word} (hop : bits w 6 0 = bits w' 6 0) (h3 : bits w 14 12 = bits w' 14 12)
    (h7 : bits w 31 25 = bits w' 31 25) : selectorsOf w = selectorsOf w' := by
  rw [bits_opcode, bits_opcode, BitVec.toNat_inj] at hop
  rw [bits_funct3, bits_funct3, BitVec.toNat_inj] at h3
  rw [bits_funct7, bits_funct7, BitVec.toNat_inj] at h7
  rw [selectorsOf, selectorsOf, hop, h3, h7]

theorem fieldSet_extract_op {d : Descriptor} (hd : d ∈ descriptorTable) (c : Config) (w : Word) :
    fieldSet (extract c d w).op = fieldSet d.op := by
  obtain ⟨henv, hr⟩ | ⟨-, hr⟩ := extract_op hd c w <;> rw [hr]
  rw [fieldSet_environment]
  obtain h | h := henv <;> rw [h] <;> rfl

theorem isSome_extract_fence {d : Descriptor} (hd : d ∈ descriptorTable) (c : Config) (w : Word) :
    (extract c d w).fence.isSome = true ↔ fieldSet d.op = some .fence := by
  obtain ⟨fields, op, hfields, h⟩ := extractsByRule_of_mem hd c w
  rw [← fieldSet_extract_op hd c w, h, isSome_fence_ruleOf, ruleOf_op, hfields, Option.some.injEq]

theorem extract_op_congr {d : Descriptor} (hd : d ∈ descriptorTable) (c c' : Config) {w w' : Word}
    (h : upper12 w = 0 ↔ upper12 w' = 0) : (extract c d w).op = (extract c' d w').op := by
  obtain ⟨henv, hr⟩ | ⟨henv, hr⟩ := extract_op hd c w <;> obtain ⟨henv', hr'⟩ | ⟨henv', hr'⟩ := extract_op hd c' w'
  · rw [hr, hr']
    exact if_congr h rfl rfl
  · exact absurd henv henv'
  · exact absurd henv' henv
  · rw [hr, hr']

/-- Settles O53: both words are extracted from by the one row that matches their selectors. -/
theorem operationDependsOnTheSelectors : Obligations.OperationDependsOnTheSelectors := by
  intro s s' hop h3 h7
  have hselectors := selectorsOf_congr hop h3 h7
  cases hlookup : lookup s.word with
  | none =>
    have hout : s.outputs = none := decode_of_lookup_none hlookup _
    have hout' : s'.outputs = none := decode_of_lookup_none (by rwa [lookup, hselectors] at hlookup) _
    rw [State.ports, State.ports, hout, hout']
    exact ⟨rfl, nofun⟩
  | some d =>
    have hd : d ∈ descriptorTable := (scan_some hlookup).1
    have hout : s.outputs = some (extract s.cfg d s.word) := decode_of_lookup_some hlookup _
    have hout' : s'.outputs = some (extract s'.cfg d s'.word) :=
      decode_of_lookup_some (by rwa [lookup, hselectors] at hlookup) _
    rw [State.ports, State.ports, hout, hout', bits_upper12_eq_zero_iff, bits_upper12_eq_zero_iff]
    refine ⟨rfl, fun _ => ⟨Bool.eq_iff_iff.mpr ?_, fun hzero => congrArg Op.code (extract_op_congr hd _ _ hzero)⟩⟩
    exact (isSome_extract_fence hd ..).trans (isSome_extract_fence hd ..).symm

/-! ### Each output of a recognised word (10_state.md R17, 70_reset_and_hazards.md R231) -/

/-- R13, R16: where the codes of a field set's operations stand. -/
def FieldSet.HasCode : FieldSet → Nat → Prop
  | .registers, n => n < 10 ∨ 13 ≤ n ∧ n ≤ 20
  | .shift, n => 10 ≤ n ∧ n ≤ 12
  | .immediate, n => 21 ≤ n ∧ n ≤ 32
  | .fence, n => 33 ≤ n ∧ n ≤ 34
  | .store, n => 35 ≤ n ∧ n ≤ 37
  | .branch, n => 38 ≤ n ∧ n ≤ 43
  | .upper, n => 44 ≤ n ∧ n ≤ 45
  | .jump, n => n = 46
  | .environment, n => 47 ≤ n ∧ n ≤ 48
  | .csrRegister, n => 49 ≤ n ∧ n ≤ 51
  | .csrImmediate, n => 52 ≤ n ∧ n ≤ 54

theorem hasCode_of_fieldSet {op : Op} {fields : FieldSet} (h : fieldSet op = some fields) :
    fields.HasCode op.code.toNat := by
  cases op <;> cases h <;> simp [FieldSet.HasCode, Op.code]

/-- R7, R12: a five-bit field of the word is the code of the register it names. -/
theorem code_reg (w : Word) {hi lo : Nat} (hwidth : hi - lo = 4) : (reg w hi lo).code.toNat = bits w hi lo := by
  have hlt : bits w hi lo < 32 := by
    rw [bits_eq, hwidth]
    exact Nat.mod_lt _ (by decide)
  exact (named_code_ofNumber _ hlt).2

theorem ofNat_bits_rs2Slot (w : Word) : BitVec.ofNat 5 (bits w 24 20) = rs2Slot w := by
  rw [bits_rs2Slot, BitVec.ofNat_toNat, BitVec.setWidth_eq]

section
variable {fields : FieldSet} {n : Nat} (h : fields.HasCode n)
include h

theorem mem_shifts_iff : n ∈ [10, 11, 12] ↔ fields = .shift := by
  cases fields <;> simp [FieldSet.HasCode] at h ⊢ <;> omega

variable (op : Op) (c : Config) (w : Word)

theorem rd_ruleOf : (ruleOf fields op c w).rd.code.toNat =
    if n ∈ List.range 33 ++ [44, 45, 46] ++ [49, 50, 51, 52, 53, 54] then bits w 11 7 else 32 := by
  simp only [List.mem_append, List.mem_range, List.mem_cons, List.not_mem_nil, or_false]
  cases fields <;> simp only [FieldSet.HasCode] at h <;> simp (disch := omega) only [if_pos, if_neg]
  case fence | store | branch | environment => rfl
  case shift => obtain ⟨_ | _⟩ := c <;> exact code_reg w rfl
  all_goals exact code_reg w rfl

theorem rs1_ruleOf : (ruleOf fields op c w).rs1.code.toNat =
    if n ∈ List.range 33 ++ [35, 36, 37, 38, 39, 40, 41, 42, 43] ++ [49, 50, 51] then bits w 19 15 else 32 := by
  simp only [List.mem_append, List.mem_range, List.mem_cons, List.not_mem_nil, or_false]
  cases fields <;> simp only [FieldSet.HasCode] at h <;> simp (disch := omega) only [if_pos, if_neg]
  case fence | upper | jump | environment | csrImmediate => rfl
  case shift => obtain ⟨_ | _⟩ := c <;> exact code_reg w rfl
  all_goals exact code_reg w rfl

/-- R82: the shift-immediates name a register in `rs2` only in the mode `replicate`. -/
theorem rs2_ruleOf : (ruleOf fields op c w).rs2.code.toNat =
    if n ∈ List.range 21 ++ [35, 36, 37, 38, 39, 40, 41, 42, 43] ∧ ¬ (c.shamtMode = .wired ∧ n ∈ [10, 11, 12])
    then bits w 24 20 else 32 := by
  simp only [mem_shifts_iff h, List.mem_append, List.mem_range, List.mem_cons, List.not_mem_nil, or_false]
  cases fields <;> simp only [FieldSet.HasCode] at h
  case shift =>
    obtain ⟨_ | _⟩ := c
    · rw [if_pos ⟨by omega, by decide⟩]
      exact code_reg w rfl
    · exact (if_neg (by simp)).symm
  all_goals simp (disch := omega) only [reduceCtorEq, and_false, not_false_eq_true, and_true, if_pos, if_neg]
  case registers | store | branch => exact code_reg w rfl
  all_goals rfl

theorem csr_ruleOf : (ruleOf fields op c w).csr.toNat = if 49 ≤ n then bits w 31 20 else 0 := by
  cases fields <;> simp only [FieldSet.HasCode] at h <;> simp (disch := omega) only [if_pos, if_neg]
  case shift => obtain ⟨_ | _⟩ := c <;> rfl
  case csrRegister | csrImmediate => exact (congrArg BitVec.toNat (ofNat_bits_upper12 w)).trans (bits_upper12 w).symm
  all_goals rfl

/-- R82: the field `shamt` carries the amount only in the mode `wired`. -/
theorem shamt_ruleOf : (ruleOf fields op c w).shamt.toNat =
    if c.shamtMode = .wired ∧ n ∈ [10, 11, 12] then bits w 24 20 else 0 := by
  simp only [mem_shifts_iff h]
  cases fields
  case shift =>
    obtain ⟨_ | _⟩ := c
    · rfl
    · rw [if_pos ⟨rfl, rfl⟩, bits_rs2Slot]
      exact congrArg BitVec.toNat (ofNat_bits_rs2Slot w)
  all_goals exact (if_neg (by simp)).symm

theorem immediate_ruleOf : (ruleOf fields op c w).immediate =
    if n ≤ 20 then 0
    else if n ≤ 32 then sextN 12 (bits w 31 20)
    else if n ≤ 34 then 0
    else if n ≤ 37 then sextN 12 (bits w 31 25 * 2 ^ 5 + bits w 11 7)
    else if n ≤ 43 then sextN 13 (rawSB w)
    else if n ≤ 45 then (bits w 31 12 : Int)
    else if n = 46 then (immUJ w : Int)
    else if n ≤ 51 then 0
    else (bits w 19 15 : Int) := by
  cases fields <;> simp only [FieldSet.HasCode] at h <;> simp (disch := omega) only [if_pos, if_neg]
  case shift => obtain ⟨_ | _⟩ := c <;> rfl
  all_goals rfl

theorem fenceCode_iff : n = 33 ∨ n = 34 ↔ fields = .fence := by
  cases fields <;> simp [FieldSet.HasCode] at h ⊢ <;> omega

theorem fence_ruleOf : (portsOfRecord (ruleOf fields op c w)).fence.toNat =
    if n = 33 ∨ n = 34 then bits w 27 20 else 0 := by
  rw [if_congr (fenceCode_iff h) rfl rfl]
  cases fields
  case fence =>
    rw [if_pos rfl, bits_fenceField, ← fenceBits_fenceOf (fenceField w), ruleOf, ← recordFence_eq_ruleFence]
    rfl
  case shift => obtain ⟨_ | _⟩ := c <;> rfl
  all_goals rfl

end

/-- D4: the port `imm` carries the immediate modulo 2^32. -/
theorem toNat_ofInt_cast (v : Int) : ((BitVec.ofInt 32 v).toNat : Int) = v % 2 ^ 32 := by
  rw [BitVec.toNat_ofInt, Int.toNat_of_nonneg (Int.emod_nonneg _ (by decide))]
  rfl

/-- Settles O55: the record is the one its rule gives, field by field. -/
theorem outputsFollowTheWord : Obligations.OutputsFollowTheWord := by
  refine ⟨fun s => ?_, fun s r hout => ?_⟩
  · rw [State.ports, portsOf_valid, State.outputs, isSome_decode, scan_isSome_iff]
  · obtain ⟨fields, op, hfields, rfl⟩ := decode_eq_ruleOf hout
    have hcode : fields.HasCode (ruleOf fields op s.cfg s.word).op.code.toNat := by
      rw [ruleOf_op]
      exact hasCode_of_fieldSet hfields
    rw [show s.ports = portsOfRecord (ruleOf fields op s.cfg s.word) from congrArg portsOf hout]
    exact ⟨rfl, rfl, rd_ruleOf hcode .., rs1_ruleOf hcode .., rs2_ruleOf hcode .., csr_ruleOf hcode ..,
      shamt_ruleOf hcode .., (toNat_ofInt_cast _).trans (congrArg (· % 2 ^ 32) (immediate_ruleOf hcode ..)),
      (isSome_fence_ruleOf ..).trans (fenceCode_iff hcode).symm, fence_ruleOf hcode ..⟩

end Sys2Proof.Machine
